-- ==== Sys2Proof/Word.lean ====
section
/-! DEFINITION. The word types of the block: bytes on the bus and ticks (00_scope.md R10). -/

namespace Sys2Proof

/-- All bus data are 8-bit bytes (R10). -/
abbrev Byte := BitVec 8

/-- The tick counter as the block sees it: 32 bits unsigned, wrapping (R10, R163). -/
abbrev Tick := BitVec 32

end Sys2Proof
end

