-- ==== Sys2Proof/Machine/Checksum.lean ====
section
/-! DEFINITION. The Checksum Engine (41_checksum.md R140 to R146): a reflected 16-bit CRC, polynomial 0xA001, initial
value 0xFFFF. -/

namespace Sys2Proof.Machine

/-- CRC_POLY (00_scope.md R7). -/
def crcPoly : BitVec 16 := 0xA001

/-- CRC_INIT (00_scope.md R7, R141). -/
def crcInit : BitVec 16 := 0xFFFF

/-- `CrcBit`: one right shift, the polynomial exclusive-ored when bit 0 was 1 (R142). -/
def crcBit (c : BitVec 16) : BitVec 16 :=
  if c.getLsbD 0 then (c >>> 1) ^^^ crcPoly else c >>> 1

/-- `n` bit steps. -/
def crcBits : Nat → BitVec 16 → BitVec 16
  | 0, c => c
  | n + 1, c => crcBits n (crcBit c)

/-- `CrcByte`: the byte enters by exclusive or into the low byte, then eight bit steps (R142). -/
def crcByte (c : BitVec 16) (b : Byte) : BitVec 16 := crcBits 8 (c ^^^ b.zeroExtend 16)

/-- The accumulator after the bytes of a list, in ascending order (R142, R146). -/
def crcFrom (c : BitVec 16) : List Byte → BitVec 16
  | [] => c
  | b :: bs => crcFrom (crcByte c b) bs

/-- `Crc16`: start at 0xFFFF (R141), no final exclusive or (R142). -/
def crc16 (bytes : List Byte) : BitVec 16 := crcFrom crcInit bytes

end Sys2Proof.Machine
end

