-- ==== Sys2Proof/Config.lean ====
section
/-! DEFINITION. The constants the source fixes (R7, R8), the parameters it names without a value (R9), and the
free values: opaque constants with no body, of which nothing can be proved. -/

namespace Sys2Proof

/-! ### Constants (00_scope.md R7, R8) -/

/-- PAGE_SIZE: bytes per page. -/
abbrev pageSize : Nat := 512
/-- BLOCK_BYTES: a block is 8 contiguous pages. -/
abbrev blockBytes : Nat := 8 * pageSize
/-- SECTOR_BYTES: a sector is 256 contiguous pages. -/
abbrev sectorBytes : Nat := 256 * pageSize
/-- MANUFACTURER_ID: the manufacturer byte INIT expects. -/
abbrev manufacturerId : Byte := 0x1F
/-- ID_BYTES: bytes of the identity. -/
abbrev idBytes : Nat := 5

/-! ### Parameters (00_scope.md R9) -/

/-- A page count of KNOWN_PARTS: 1 to 32768 (R22; another value is no legal parameter, U20). -/
structure PartPages where
  pages : BitVec 16
  legal : 1 ≤ pages.toNat ∧ pages.toNat ≤ 32768
deriving DecidableEq, Repr

/-- One entry of KNOWN_PARTS: a device code and its page count. -/
structure KnownPart where
  code : Byte
  part : PartPages
deriving DecidableEq, Repr

/-- A four-byte sequence (SEQ_CHIPER). -/
structure Bytes4 where
  b0 : Byte
  b1 : Byte
  b2 : Byte
  b3 : Byte
deriving DecidableEq, Repr, Inhabited

/-- The bytes of a four-byte sequence, element 0 first (R53 (e)). -/
def Bytes4.toList (b : Bytes4) : List Byte := [b.b0, b.b1, b.b2, b.b3]

/-- The parameters the source names and gives no value for (R9). Every meaning is written over them; no rule
depends on a value. The order R9 gives the erase times is `Params.TimesOrdered`; no meaning uses it. -/
structure Params where
  opBufwr : Byte
  opProgE : Byte
  opProgNe : Byte
  opPgrd : Byte
  opPger : Byte
  opBlker : Byte
  opSecer : Byte
  seqChiper : Bytes4
  opSrrd : Byte
  opIdrd : Byte
  /-- SEQ_PSCFG is a byte list of length at least 1 (D8): its first byte … -/
  seqPscfgHead : Byte
  /-- … and the rest. -/
  seqPscfgTail : List Byte
  /-- SR_BUSY_BIT, 0 to 7. -/
  srBusyBit : Fin 8
  /-- SR_BUSY_LEVEL: the value of that bit while the device is busy. -/
  srBusyLevel : Bool
  /-- SR_PSIZE_BIT, 0 to 7. -/
  srPsizeBit : Fin 8
  /-- SR_PSIZE_BINARY: the value of that bit in the binary-page mode. -/
  srPsizeBinary : Bool
  /-- KNOWN_PARTS, a finite map: the first entry of a code counts. -/
  knownParts : List KnownPart
  tResp : Tick
  tConfig : Tick
  tProgE : Tick
  tProgNe : Tick
  tPger : Tick
  tBlker : Tick
  tSecer : Tick
  tChiper : Tick
  /-- T_XFER: applied by the transport alone (R9, R14); no meaning reads it. -/
  tXfer : Tick
  /-- RX_FILL: the byte driven out during a receive (R159). -/
  rxFill : Byte
deriving DecidableEq, Repr, Inhabited

/-- SEQ_PSCFG as a list. -/
def Params.seqPscfg (p : Params) : List Byte := p.seqPscfgHead :: p.seqPscfgTail

/-- The order R9 and R278 (a) give the erase times. -/
def Params.TimesOrdered (p : Params) : Prop :=
  p.tPger < p.tBlker ∧ p.tBlker < p.tSecer ∧ p.tSecer < p.tChiper

/-- The defaults of R9 (PRESUMED there: general knowledge of the AT45DB family) with the test times of
95_test_vectors.md section 1 (log 18). No meaning, and not `State.reset`, uses them: they number the wire rows of the
opcode table (log 4) and serve the tests. -/
def Params.r9 : Params where
  opBufwr := 0x84
  opProgE := 0x83
  opProgNe := 0x88
  opPgrd := 0xD2
  opPger := 0x81
  opBlker := 0x50
  opSecer := 0x7C
  seqChiper := ⟨0xC7, 0x94, 0x80, 0x9A⟩
  opSrrd := 0xD7
  opIdrd := 0x9F
  seqPscfgHead := 0x3D
  seqPscfgTail := [0x2A, 0x80, 0xA6]
  srBusyBit := 7
  srBusyLevel := false
  srPsizeBit := 0
  srPsizeBinary := true
  knownParts := [⟨0x26, ⟨4096, by decide⟩⟩]
  tResp := 5
  tConfig := 2
  tProgE := 4
  tProgNe := 3
  tPger := 2
  tBlker := 3
  tSecer := 4
  tChiper := 5
  tXfer := 1
  rxFill := 0

/-! ### Environment answers and free values -/

/-- What the transport and the device answer to one Tx or Rx: success, and the bytes a receive returns
(00_scope.md R15 (a), (b)). -/
structure BusAnswer where
  ok : Bool
  bytes : List Byte
deriving DecidableEq, Repr, Inhabited

/-- The parameters of the machine after reset: free (R9, U15; log 3). -/
opaque Config.params : Params
/-- The strap BUS_OK after reset: free (R23; log 3). -/
opaque Config.busOk : Bool
/-- The strap CS_ID after reset: free (R23; log 3). -/
opaque Config.csIdIn : BitVec 16
/-- The host input frame_grant after reset: free (R194, U16; log 3). -/
opaque Config.frameGrant : Bool
/-- The answer to a transfer that the state's list of answers does not decide: free (R15, U12; log 2). -/
opaque Config.busAnswer : Nat → BusAnswer
/-- A byte of a successful receive that its answer does not list: free (R15 (b), U12; log 2). -/
opaque Config.rxByte : Nat → Nat → Byte
/-- A tick value that the state's list of ticks does not decide: free (R15 (c), U13; log 2). -/
opaque Config.tick : Nat → Tick
/-- A byte of HostBuf that no cell lists: free (R30; log 6). -/
opaque Config.hostByte : Nat → Byte
/-- A byte of FB that no cell lists: free (R34, U6; log 7). -/
opaque Config.fbByte : Nat → Byte

end Sys2Proof
end

