-- ==== Sys2Proof/Syntax.lean ====
section
/-! DEFINITION. The instructions: one constructor per row of spec/opcode_table.json, eleven wire commands
(40_encoder.md R114 to R124) and eleven request forms (30_encoding.md R82 to R93). -/

namespace Sys2Proof

/-- Completion policy (R85). The fourth value decodes and fails the guard GP (R87, R208). -/
inductive Policy where
  | noWait
  | fixedDelay
  | busyPoll
  | reserved
deriving DecidableEq, Repr

/-- The instructions. A wire command carries its operands as its rule lists them; a request carries the fields of
the request word its operation uses (R82: the others are ignored). -/
inductive Instr where
  /-- BUFWR (R114): payload and, if asked, the checksum. -/
  | bufwr (payload : List Byte) (checksum : Option (BitVec 16))
  /-- PROG.E (R115): byte offset of the page. -/
  | progE (address : BitVec 24)
  /-- PROG.NE (R116). -/
  | progNe (address : BitVec 24)
  /-- PGRD (R117): byte offset of the page and the number of bytes to receive. -/
  | pgrd (address : BitVec 24) (count : Nat)
  /-- PGER (R118). -/
  | pger (address : BitVec 24)
  /-- BLKER (R119). -/
  | blker (address : BitVec 24)
  /-- SECER (R120). -/
  | secer (address : BitVec 24)
  /-- CHIPER (R121). -/
  | chiper
  /-- SRRD (R122). -/
  | srrd
  /-- IDRD (R123). -/
  | idrd
  /-- PSCFG (R124). -/
  | pscfg
  /-- INIT (R186). -/
  | init
  /-- WRITE (R190): `crc` is appendChecksum, `ebw` is eraseBeforeWrite, `buf` says a caller buffer is attached. -/
  | write (policy : Policy) (crc ebw buf : Bool) (length : BitVec 16) (address : BitVec 32)
  /-- READ (R195): `crc` is verifyChecksum. -/
  | read (crc buf : Bool) (length : BitVec 16) (address : BitVec 32)
  /-- ERASE.PAGE (R199). -/
  | erasePage (policy : Policy) (address : BitVec 32)
  /-- ERASE.BLOCK (R200). -/
  | eraseBlock (policy : Policy) (address : BitVec 32)
  /-- ERASE.SECTOR (R201). -/
  | eraseSector (policy : Policy) (address : BitVec 32)
  /-- ERASE.CHIP (R202). -/
  | eraseChip (policy : Policy) (address : BitVec 32)
  /-- ERASE with an unrecognised granularity (R203): the selector, 4 to 7. -/
  | eraseUnrecognised (gran : BitVec 3)
  /-- ISBUSY (R205). -/
  | isBusy
  /-- RESERVED, op = 5 (R207). -/
  | reserved5
  /-- RESERVED, op = 6 or 7 (R207): `low` is bit 61, so op = 7 when it is true. -/
  | reserved67 (low : Bool)
deriving DecidableEq, Repr

/-- The mnemonic of the instruction's row in spec/opcode_table.json. -/
def Instr.mnemonic : Instr → String
  | .bufwr _ _ => "BUFWR"
  | .progE _ => "PROG.E"
  | .progNe _ => "PROG.NE"
  | .pgrd _ _ => "PGRD"
  | .pger _ => "PGER"
  | .blker _ => "BLKER"
  | .secer _ => "SECER"
  | .chiper => "CHIPER"
  | .srrd => "SRRD"
  | .idrd => "IDRD"
  | .pscfg => "PSCFG"
  | .init => "INIT"
  | .write _ _ _ _ _ _ => "WRITE"
  | .read _ _ _ _ => "READ"
  | .erasePage _ _ => "ERASE.PAGE"
  | .eraseBlock _ _ => "ERASE.BLOCK"
  | .eraseSector _ _ => "ERASE.SECTOR"
  | .eraseChip _ _ => "ERASE.CHIP"
  | .eraseUnrecognised _ => "ERASE.unrecognised"
  | .isBusy => "ISBUSY"
  | .reserved5 => "RESERVED.5"
  | .reserved67 _ => "RESERVED.6_7"

end Sys2Proof
end

