-- ==== Sys2Proof/WellFormed.lean ====
section
/-! DEFINITION. When an instruction is one the encodings admit: the operand ranges of 40_encoder.md R114 to R120 and
the selector range of 43_operations.md R203. A request's other operands are unrestricted (R87). -/

namespace Sys2Proof

/-- The number of checksum bytes a BUFWR carries. -/
def checksumBytes (c : Option (BitVec 16)) : Nat := if c.isSome then 2 else 0

/-- The checks, as a Bool: the frame sizes (R114, R117) and the alignment of the addressed commands (R115 to
R120; bounds depend on pageCount and are guards of the meanings, R55). -/
def Instr.wf : Instr → Bool
  | .bufwr payload c => decide (1 ≤ payload.length ∧ payload.length + checksumBytes c ≤ pageSize)
  | .progE a => decide (a.toNat % pageSize = 0)
  | .progNe a => decide (a.toNat % pageSize = 0)
  | .pgrd a n => decide (a.toNat % pageSize = 0 ∧ 1 ≤ n ∧ n ≤ pageSize)
  | .pger a => decide (a.toNat % pageSize = 0)
  | .blker a => decide (a.toNat % blockBytes = 0)
  | .secer a => decide (a.toNat % sectorBytes = 0)
  | .chiper => true
  | .srrd => true
  | .idrd => true
  | .pscfg => true
  | .init => true
  | .write _ _ _ _ _ _ => true
  | .read _ _ _ _ => true
  | .erasePage _ _ => true
  | .eraseBlock _ _ => true
  | .eraseSector _ _ => true
  | .eraseChip _ _ => true
  | .eraseUnrecognised g => decide (4 ≤ g.toNat)
  | .isBusy => true
  | .reserved5 => true
  | .reserved67 _ => true

/-- An instruction the encodings admit. -/
abbrev WellFormed (i : Instr) : Prop := i.wf = true

end Sys2Proof
end

