-- ==== Sys2Proof/Decode.lean ====
section
/-! DEFINITION. The two encodings (30_encoding.md R80): the 64-bit request word (R82 to R87) and the bytes of a wire
frame (R89), with their decoder and encoder. Wire rows are numbered by spec/opcode_table.json's match values
(log 4): the block emits wire commands from its parameters and never decodes one (R91). -/

namespace Sys2Proof

/-- What can be presented to the sequencer: a request word, or one wire frame. A frame's bytes are those the block
drives between CS0 and CS1, the fill bytes of a receive included (R88, R159); `crc` says whether the last two
bytes of a BUFWR are its checksum, which the bytes themselves do not tell (R89: "when asked"). -/
inductive Code where
  | request (word : BitVec 64)
  | frame (crc : Bool) (bytes : List Byte)
deriving DecidableEq, Repr

/-- Why a wire frame decodes to no instruction; a request word always decodes (R87). The sequencer answers such a frame with
ErrorArgument and no bus event, which is the model's choice (log 4). -/
inductive DecodeError where
  /-- No byte between CS0 and CS1. -/
  | emptyFrame
  /-- The first byte starts no row of the table. -/
  | unknownOpcode (op : Byte)
  /-- The bytes after the opcode do not have the shape of the row's format (R89). -/
  | badShape (mnemonic : String)
  /-- An operand is out of the range its rule gives it. -/
  | badOperand (mnemonic : String)
deriving DecidableEq, Repr

/-! ### Fields of the request word (R82 to R86) -/

/-- Bits 63:61, the operation selector. -/
def reqOp (w : BitVec 64) : BitVec 3 := w.extractLsb' 61 3
/-- Bits 60:58, the erase granularity selector. -/
def reqGran (w : BitVec 64) : BitVec 3 := w.extractLsb' 58 3
/-- Bits 57:56, the completion policy. -/
def reqPolicyBits (w : BitVec 64) : BitVec 2 := w.extractLsb' 56 2
/-- Bit 55: appendChecksum or verifyChecksum. -/
def reqCrc (w : BitVec 64) : Bool := w.getLsbD 55
/-- Bit 54: eraseBeforeWrite. -/
def reqEbw (w : BitVec 64) : Bool := w.getLsbD 54
/-- Bit 53: a caller buffer is attached. -/
def reqBuf (w : BitVec 64) : Bool := w.getLsbD 53
/-- Bits 47:32, the payload length, unsigned (R86). -/
def reqLength (w : BitVec 64) : BitVec 16 := w.extractLsb' 32 16
/-- Bits 31:0, the byte offset, unsigned (R86). -/
def reqAddress (w : BitVec 64) : BitVec 32 := w.extractLsb' 0 32

/-- The policy values (R85). -/
def policyOfBits (b : BitVec 2) : Policy :=
  if b = 0 then .noWait else if b = 1 then .fixedDelay else if b = 2 then .busyPoll else .reserved

/-- The completion policy of a request word. -/
def reqPolicy (w : BitVec 64) : Policy := policyOfBits (reqPolicyBits w)

/-- ERASE's granularity selects the operation (R84, R87). -/
def decodeErase (w : BitVec 64) : Instr :=
  if reqGran w = 0 then .erasePage (reqPolicy w) (reqAddress w)
  else if reqGran w = 1 then .eraseBlock (reqPolicy w) (reqAddress w)
  else if reqGran w = 2 then .eraseSector (reqPolicy w) (reqAddress w)
  else if reqGran w = 3 then .eraseChip (reqPolicy w) (reqAddress w)
  else .eraseUnrecognised (reqGran w)

/-- Decoding a request word is total (R87); `op` first, then for ERASE `gran` (R83). -/
def decodeRequest (w : BitVec 64) : Instr :=
  if reqOp w = 0 then .init
  else if reqOp w = 1 then
    .write (reqPolicy w) (reqCrc w) (reqEbw w) (reqBuf w) (reqLength w) (reqAddress w)
  else if reqOp w = 2 then .read (reqCrc w) (reqBuf w) (reqLength w) (reqAddress w)
  else if reqOp w = 3 then decodeErase w
  else if reqOp w = 4 then .isBusy
  else if reqOp w = 5 then .reserved5
  else .reserved67 (w.getLsbD 61)

/-! ### Wire frames (R89) -/

/-- The three address bytes, most significant first (R53 (a), R90). -/
def addressBytes (a : BitVec 24) : List Byte :=
  [a.extractLsb' 16 8, a.extractLsb' 8 8, a.extractLsb' 0 8]

/-- The address field of three bytes, most significant first. -/
def addressOf (b2 b1 b0 : Byte) : BitVec 24 := b2 ++ b1 ++ b0

/-- The two checksum bytes, high byte first (41_checksum.md R144). -/
def crcBytes (c : BitVec 16) : List Byte := [c.extractLsb' 8 8, c.extractLsb' 0 8]

/-- Accept an instruction only if its operands are in the ranges of their rules (R114 to R120): aligned, and of a size that fits.
A frame of a row with any other operand, such as 50 00 02 00 for BLKER, is a `badOperand`; DESIGN CHOICE (log 4): presented, it
is ErrorArgument with no bus event, like one whose address is past the array (guardWireUnit). -/
def checked (i : Instr) : Except DecodeError Instr :=
  if i.wf then .ok i else .error (.badOperand i.mnemonic)

/-- Format WF-A: the opcode is followed by the three address bytes and nothing else. -/
def decodeWfA (make : BitVec 24 → Instr) (rest : List Byte) : Except DecodeError Instr :=
  match rest with
  | [b2, b1, b0] => checked (make (addressOf b2 b1 b0))
  | _ => .error (.badShape (make 0).mnemonic)

/-- The payload of a BUFWR and, if `crc`, its last two bytes as the checksum. -/
def decodeWfAD (crc : Bool) (rest : List Byte) : Except DecodeError Instr :=
  match rest with
  | 0#8 :: 0#8 :: 0#8 :: data =>
    if crc then
      match data.drop (data.length - 2) with
      | [hi, lo] => checked (.bufwr (data.take (data.length - 2)) (some (hi ++ lo)))
      | _ => .error (.badShape "BUFWR")
    else checked (.bufwr data none)
  | _ => .error (.badShape "BUFWR")

/-- Format WF-AR: address, four zero bytes, then one fill byte for each byte received; the fill bytes may have any
value (R159). -/
def decodeWfAR (rest : List Byte) : Except DecodeError Instr :=
  match rest with
  | b2 :: b1 :: b0 :: 0#8 :: 0#8 :: 0#8 :: 0#8 :: fill => checked (.pgrd (addressOf b2 b1 b0) fill.length)
  | _ => .error (.badShape "PGRD")

/-- Formats WF-R and WF-4: the frame has no operand, only the right shape. -/
def decodeFixed (i : Instr) (shape : Bool) : Except DecodeError Instr :=
  if shape then .ok i else .error (.badShape i.mnemonic)

/-- A wire frame's decoding, by its first byte (R81, R89, and the match values of spec/opcode_table.json). -/
def decodeFrame (crc : Bool) (bytes : List Byte) : Except DecodeError Instr :=
  match bytes with
  | [] => .error .emptyFrame
  | op :: rest =>
    if op = 0x84#8 then decodeWfAD crc rest
    else if op = 0x83#8 then decodeWfA .progE rest
    else if op = 0x88#8 then decodeWfA .progNe rest
    else if op = 0xD2#8 then decodeWfAR rest
    else if op = 0x81#8 then decodeWfA .pger rest
    else if op = 0x50#8 then decodeWfA .blker rest
    else if op = 0x7C#8 then decodeWfA .secer rest
    else if op = 0xC7#8 then decodeFixed .chiper (decide (rest = [0x94#8, 0x80#8, 0x9A#8]))
    else if op = 0xD7#8 then decodeFixed .srrd (decide (rest.length = 1))
    else if op = 0x9F#8 then decodeFixed .idrd (decide (rest.length = 5))
    else if op = 0x3D#8 then decodeFixed .pscfg (decide (rest = [0x2A#8, 0x80#8, 0xA6#8]))
    else .error (.unknownOpcode op)

/-- Decoding, total: a request word always decodes, a wire frame decodes or is an error by name. -/
def decode : Code → Except DecodeError Instr
  | .request w => .ok (decodeRequest w)
  | .frame crc bytes => decodeFrame crc bytes

/-! ### The encoder -/

/-- The bits of a policy (R85). -/
def policyBits : Policy → BitVec 2
  | .noWait => 0
  | .fixedDelay => 1
  | .busyPoll => 2
  | .reserved => 3

/-- A request word from its fields, reserved bits 52:48 zero (R82). -/
def requestWord (op gran : BitVec 3) (policy : BitVec 2) (crc ebw buf : Bool) (length : BitVec 16)
    (address : BitVec 32) : BitVec 64 :=
  op ++ gran ++ policy ++ BitVec.ofBool crc ++ BitVec.ofBool ebw ++ BitVec.ofBool buf ++ 0#5 ++ length ++ address

/-- The request word of an ERASE of a granularity. -/
def eraseWord (gran : BitVec 3) (p : Policy) (address : BitVec 32) : BitVec 64 :=
  requestWord 3 gran (policyBits p) false false false 0 address

/-- The code of an instruction: unused request fields and fill bytes are zero. -/
def encode : Instr → Code
  | .bufwr payload c =>
    .frame c.isSome (0x84#8 :: 0#8 :: 0#8 :: 0#8 :: (payload ++ (c.map crcBytes).getD []))
  | .progE a => .frame false (0x83#8 :: addressBytes a)
  | .progNe a => .frame false (0x88#8 :: addressBytes a)
  | .pgrd a n => .frame false (0xD2#8 :: (addressBytes a ++ 0#8 :: 0#8 :: 0#8 :: 0#8 :: List.replicate n 0#8))
  | .pger a => .frame false (0x81#8 :: addressBytes a)
  | .blker a => .frame false (0x50#8 :: addressBytes a)
  | .secer a => .frame false (0x7C#8 :: addressBytes a)
  | .chiper => .frame false [0xC7#8, 0x94#8, 0x80#8, 0x9A#8]
  | .srrd => .frame false [0xD7#8, 0#8]
  | .idrd => .frame false [0x9F#8, 0#8, 0#8, 0#8, 0#8, 0#8]
  | .pscfg => .frame false [0x3D#8, 0x2A#8, 0x80#8, 0xA6#8]
  | .init => .request (requestWord 0 0 0 false false false 0 0)
  | .write p crc ebw buf length address =>
    .request (requestWord 1 0 (policyBits p) crc ebw buf length address)
  | .read crc buf length address => .request (requestWord 2 0 0 crc false buf length address)
  | .erasePage p address => .request (eraseWord 0 p address)
  | .eraseBlock p address => .request (eraseWord 1 p address)
  | .eraseSector p address => .request (eraseWord 2 p address)
  | .eraseChip p address => .request (eraseWord 3 p address)
  | .eraseUnrecognised g => .request (requestWord 3 g 0 false false false 0 0)
  | .isBusy => .request (requestWord 4 0 0 false false false 0 0)
  | .reserved5 => .request (requestWord 5 0 0 false false false 0 0)
  | .reserved67 low => .request (requestWord (if low then 7 else 6) 0 0 false false false 0 0)

/-! ### The opcode table's words -/

/-- A request row of spec/opcode_table.json: the words it stands for are those that agree with `value` under `mask`. -/
structure RequestRow where
  name : String
  mask : BitVec 64
  value : BitVec 64
deriving DecidableEq, Repr

/-- The eleven request rows of spec/opcode_table.json. -/
def requestRows : List RequestRow :=
  [⟨"INIT", 0xE000000000000000, 0x0000000000000000⟩,
    ⟨"WRITE", 0xE000000000000000, 0x2000000000000000⟩,
    ⟨"READ", 0xE000000000000000, 0x4000000000000000⟩,
    ⟨"ERASE.PAGE", 0xFC00000000000000, 0x6000000000000000⟩,
    ⟨"ERASE.BLOCK", 0xFC00000000000000, 0x6400000000000000⟩,
    ⟨"ERASE.SECTOR", 0xFC00000000000000, 0x6800000000000000⟩,
    ⟨"ERASE.CHIP", 0xFC00000000000000, 0x6C00000000000000⟩,
    ⟨"ERASE.unrecognised", 0xF000000000000000, 0x7000000000000000⟩,
    ⟨"ISBUSY", 0xE000000000000000, 0x8000000000000000⟩,
    ⟨"RESERVED.5", 0xE000000000000000, 0xA000000000000000⟩,
    ⟨"RESERVED.6_7", 0xC000000000000000, 0xC000000000000000⟩]

/-- The eleven wire rows of spec/opcode_table.json: the bytes a frame of the row starts with. -/
def wireRows : List (String × List Byte) :=
  [("BUFWR", [0x84#8]), ("PROG.E", [0x83#8]), ("PROG.NE", [0x88#8]), ("PGRD", [0xD2#8]), ("PGER", [0x81#8]),
    ("BLKER", [0x50#8]), ("SECER", [0x7C#8]), ("CHIPER", [0xC7#8, 0x94#8, 0x80#8, 0x9A#8]), ("SRRD", [0xD7#8]),
    ("IDRD", [0x9F#8]), ("PSCFG", [0x3D#8, 0x2A#8, 0x80#8, 0xA6#8])]

/-- The first `n` bytes of a number of `8 * n` bits, most significant byte first: the table numbers a frame's bytes
with byte 0 most significant (log 5). -/
def bytesMsbFirst : Nat → Nat → List Byte
  | 0, _ => []
  | n + 1, w => BitVec.ofNat 8 (w / 2 ^ (8 * n)) :: bytesMsbFirst n w

/-- The bytes of the shortest frame that starts with an opcode (R89): what a table word leaves out is zero. -/
def shortestFrame (op : Byte) : Nat :=
  if op = 0x84#8 then 5 else if op = 0xD2#8 then 9 else if op = 0xD7#8 then 2 else if op = 0x9F#8 then 6 else 4

/-- Extend a frame with zero bytes to the shortest frame of its opcode. -/
def padFrame (bytes : List Byte) : List Byte :=
  bytes ++ List.replicate (shortestFrame (bytes.headD 0) - bytes.length) 0#8

/-- The code a word of the opcode table stands for: 64 bits are a request word, fewer are the first bytes of a wire
frame (log 5). -/
def tableCode (nbits w : Nat) : Code :=
  if 64 ≤ nbits then .request (BitVec.ofNat 64 w)
  else .frame false (padFrame (bytesMsbFirst ((nbits + 7) / 8) w))

/-- The instruction the decoder reads from a word of the opcode table. -/
def decodeTableWord (nbits w : Nat) : Option Instr :=
  match decode (tableCode nbits w) with
  | .ok i => some i
  | .error _ => none

end Sys2Proof
end

