-- ==== Sys2Proof/Machine/State.lean ====
section
/-! DEFINITION. The state of the block (10_state.md R20 to R38), the environment it reads (R15, R39), the reasons a
step can stop, and the machine right after reset. -/

namespace Sys2Proof.Machine

/-- The five identity bytes (R21): 0 is the manufacturer byte, 1 the device code (D17), 2 to 4 are stored and never
interpreted (R187 (g)). -/
structure Identity where
  b0 : Byte
  b1 : Byte
  b2 : Byte
  b3 : Byte
  b4 : Byte
deriving DecidableEq, Repr

/-- The four command bytes of the encoder's scratch (R28). -/
structure CmdReg where
  c0 : Byte
  c1 : Byte
  c2 : Byte
  c3 : Byte
deriving DecidableEq, Repr

/-- The three address bytes of the encoder's scratch (R28). -/
structure AdrReg where
  a0 : Byte
  a1 : Byte
  a2 : Byte
deriving DecidableEq, Repr

/-- The eleven values of the status register (R25; the other five codes are never produced, U21). -/
inductive Status where
  | reset
  | ready
  | busyWrite
  | busyRead
  | busyErase
  | errorInitialization
  | errorArgument
  | errorTimeout
  | errorMemoryAllocation
  | errorChecksum
  | errorInstruction
deriving DecidableEq, Repr

/-- The six error kinds `raise` takes (60_exceptions.md R231). -/
inductive ErrorKind where
  | initialization
  | argument
  | timeout
  | memoryAllocation
  | checksum
  | instruction
deriving DecidableEq, Repr

/-- The sequencer phases (R24). -/
inductive Seq where
  | idle
  | guard
  | frame
  | gap
  | wait
  | verify
deriving DecidableEq, Repr

/-- The events of the wire trace (00_scope.md R14). -/
inductive Event where
  /-- Chip select driven low. -/
  | cs0
  /-- Chip select driven high. -/
  | cs1
  /-- A transmit that succeeded. -/
  | tx (bytes : List Byte)
  /-- A transmit that failed: an unknown prefix of the bytes reached the wire (log 10). -/
  | txFail (bytes : List Byte)
  /-- A receive that succeeded, with the bytes the device returned. -/
  | rx (bytes : List Byte)
  /-- A receive of `count` bytes that failed. -/
  | rxFail (count : Nat)
  /-- A reading of the tick source. -/
  | tick (value : Tick)
deriving DecidableEq, Repr

/-- One transport call of a frame (R14, R157). -/
inductive Call where
  | tx (bytes : List Byte)
  | rx (count : Nat)
deriving DecidableEq, Repr

/-- Bytes by index: the cells that were written, in strictly rising order of index (log 6, log 7). An index that is
not listed holds no value of the model's. -/
abbrev Memory := List Host.Cell

/-- The wait an operation in progress stands in (log 1): the spec's two loops (R167), each with what the operation
needs to go on. -/
inductive Flight where
  /-- INIT step 2: BusyPoll(T_RESP) (R186). -/
  | initReady
  /-- INIT step 5: FixedDelay(T_CONFIG), for the part the identity named (R186). -/
  | initConfig (part : PartPages)
  /-- Completion policy BusyPoll with this budget (R165). -/
  | poll (budget : Tick)
  /-- Completion policy FixedDelay with this many ticks (R165). -/
  | delay (ticks : Tick)
deriving DecidableEq, Repr

/-- The block's registers and outputs, and the environment it reads. -/
structure State where
  /-- R21: written by INIT while `pageCount` is 0. -/
  identity : Identity
  /-- R22: 0 means not initialised; written once, by a successful INIT. -/
  pageCount : BitVec 16
  /-- R23: an INIT has passed its argument check. -/
  busBound : Bool
  /-- R23: the chip-select identifier latched with it. -/
  csId : BitVec 16
  /-- R25, R26. -/
  status : Status
  /-- R24. -/
  seq : Seq
  /-- R28: opcode bytes of the last frame. -/
  cmd : CmdReg
  /-- R28: address bytes of the last frame that had some. -/
  adr : AdrReg
  /-- R29: the last status byte a status read returned. -/
  sr : Byte
  /-- R31: the chip-select level, true = 1 = deasserted. -/
  cs : Bool
  /-- R32: the checksum accumulator. -/
  crc : BitVec 16
  /-- R32: the tick latched at the start of a wait. -/
  t0 : Tick
  /-- R34: the frame buffer FB, indices 0 to 511. -/
  fb : Memory
  /-- R33: the status of the last response. -/
  rspStatus : Status
  /-- R33: the busy flag of the last response. -/
  rspBusy : Bool
  /-- R14: every event on the outward ports, oldest first. -/
  trace : List Event
  /-- The wait in progress, if one is (log 1). -/
  flight : Option Flight
  /-- The parameters of R9; no step writes them (log 3). -/
  params : Params
  /-- The reset input, true = asserted (R260; log 11). -/
  resetIn : Bool
  /-- The strap BUS_OK (R23). -/
  busOk : Bool
  /-- The strap CS_ID (R23). -/
  csIdIn : BitVec 16
  /-- The host input frame_grant (R194). -/
  frameGrant : Bool
  /-- What the host presents (R185; log 4). -/
  port : Option Code
  /-- The caller's buffer (R30; log 6). -/
  hostBuf : Memory
  /-- Answers to the next transfers that are already decided; after them each answer is free (R15; log 2). -/
  bus : List BusAnswer
  /-- Tick values already decided; after them each tick is free (R15; log 2). -/
  ticks : List Tick
  /-- The counter that indexes free values (log 2). -/
  draws : Nat
deriving DecidableEq, Repr

/-- Why the machine can stop with a fault. The block's own errors are status values, not faults (R230). -/
inductive Fault where
  /-- Raised by PGRD executed by itself with more bytes to receive than FB holds: FB[512] does not exist (R34, R50;
  log 17). Safe: the model stops; no decoded instruction and no request reaches it. -/
  | frameBuffer (count : Nat)
deriving DecidableEq, Repr

/-- Why the machine can refuse to go on. No step does: every presented code is answered (R87; log 4). -/
inductive Refusal where
  /-- Raised by an instruction that has no meaning yet. Safe: the model stops. -/
  | notModelled (mnemonic : String)
deriving DecidableEq, Repr

/-- The registers, outputs and sequencer as reset leaves them (R38, R260), with an environment taken from `s`. -/
def State.resetRegisters (s : State) : State :=
  { s with
    identity := ⟨0, 0, 0, 0, 0⟩, pageCount := 0, busBound := false, csId := 0, status := .reset, seq := .idle,
    cmd := ⟨0, 0, 0, 0⟩, adr := ⟨0, 0, 0⟩, sr := 0, cs := true, crc := 0, t0 := 0, fb := [],
    rspStatus := .reset, rspBusy := false, flight := none }

/-- The machine right after reset: the registers of R38, an empty wire trace, nothing presented, and a free
environment (log 2, log 3, log 6). -/
def State.reset : State where
  identity := ⟨0, 0, 0, 0, 0⟩
  pageCount := 0
  busBound := false
  csId := 0
  status := .reset
  seq := .idle
  cmd := ⟨0, 0, 0, 0⟩
  adr := ⟨0, 0, 0⟩
  sr := 0
  cs := true
  crc := 0
  t0 := 0
  fb := []
  rspStatus := .reset
  rspBusy := false
  trace := []
  flight := none
  params := Config.params
  resetIn := false
  busOk := Config.busOk
  csIdIn := Config.csIdIn
  frameGrant := Config.frameGrant
  port := none
  hostBuf := []
  bus := []
  ticks := []
  draws := 0

end Sys2Proof.Machine
end

