-- ==== Sys2Proof/Machine/Flags.lean ====
section
/-! DEFINITION. The codes of the status and phase registers (10_state.md R24, R25), the two fields of the status
byte (R29), the tick difference (R163). There are no arithmetic flags (R27). -/

namespace Sys2Proof.Machine

/-- The numeric status codes (R25). -/
def Status.code : Status → BitVec 4
  | .reset => 0
  | .ready => 1
  | .busyWrite => 2
  | .busyRead => 3
  | .busyErase => 4
  | .errorInitialization => 8
  | .errorArgument => 9
  | .errorTimeout => 10
  | .errorMemoryAllocation => 11
  | .errorChecksum => 12
  | .errorInstruction => 13

/-- The status value of an error kind (R231). -/
def ErrorKind.status : ErrorKind → Status
  | .initialization => .errorInitialization
  | .argument => .errorArgument
  | .timeout => .errorTimeout
  | .memoryAllocation => .errorMemoryAllocation
  | .checksum => .errorChecksum
  | .instruction => .errorInstruction

/-- The error class of R25. -/
def Status.isError (s : Status) : Bool := s.code.getLsbD 3

/-- The busy class of R25. -/
def Status.isBusy : Status → Bool
  | .busyWrite | .busyRead | .busyErase => true
  | _ => false

/-- The numeric phase codes (R24). -/
def Seq.code : Seq → BitVec 3
  | .idle => 0
  | .guard => 1
  | .frame => 2
  | .gap => 3
  | .wait => 4
  | .verify => 5

/-- `DeviceBusy(s)`: the busy bit has the level that stands for busy (R160). -/
def deviceBusy (p : Params) (s : Byte) : Bool := s.getLsbD p.srBusyBit.val == p.srBusyLevel

/-- The page-size bit shows the binary-page mode (R29, R186 step 5). -/
def binaryMode (p : Params) (s : Byte) : Bool := s.getLsbD p.srPsizeBit.val == p.srPsizeBinary

/-- `Elapsed(a, b) = (b - a) mod 2^32` (R163; log 13). -/
def elapsed (a b : Tick) : Tick := b - a

/-- `KNOWN_PARTS[code]`, if the code is in the map's domain (R9, R186 step 4). -/
def partOf (p : Params) (code : Byte) : Option PartPages :=
  (p.knownParts.find? fun k => k.code == code).map KnownPart.part

end Sys2Proof.Machine
end

