-- ==== Sys2Proof/Machine/Ops.lean ====
section
/-! DEFINITION. The named operations: bytes of FB and HostBuf, chip select and wire trace, transport calls and frames,
tick readings, the encoder's scratch registers, raising an error and returning Ready. -/

namespace Sys2Proof.Machine

/-! ### Bytes by index -/

/-- The byte an index lists, if it lists one. -/
def Memory.read : Memory → Nat → Option Byte
  | [], _ => none
  | (k, v) :: m, a => if k = a then some v else Memory.read m a

/-- Write one byte, keeping the indices strictly rising. -/
def Memory.write : Memory → Nat → Byte → Memory
  | [], a, b => [(a, b)]
  | (k, v) :: m, a, b =>
    if a < k then (a, b) :: (k, v) :: m else if a = k then (a, b) :: m else (k, v) :: Memory.write m a b

/-- Write bytes at ascending indices from `a` (10_state.md R30, R34). -/
def Memory.writeBytes : Memory → Nat → List Byte → Memory
  | m, _, [] => m
  | m, a, b :: bs => Memory.writeBytes (Memory.write m a b) (a + 1) bs

/-- The canonical form: indices strictly rising. An unlisted index holds no value, so every listed byte differs from
what an unlisted index holds (log 6). -/
def Memory.wf : Memory → Bool
  | [] => true
  | [_] => true
  | x :: y :: m => decide (x.1 < y.1) && Memory.wf (y :: m)

/-- `HostBuf[i]`: the caller's byte, a free value where the state lists none (log 6). -/
def hostByte (s : State) (i : Nat) : Byte := (Memory.read s.hostBuf i).getD (Config.hostByte i)

/-- `FB[i]`: a free value where nothing was received (R34; log 7). -/
def fbByte (s : State) (i : Nat) : Byte := (Memory.read s.fb i).getD (Config.fbByte i)

/-- `HostBuf[0..n-1]` in ascending order (R30). -/
def hostBytes (s : State) (n : Nat) : List Byte := (List.range n).map (hostByte s)

/-- `FB[0..n-1]` in ascending order. -/
def fbBytes (s : State) (n : Nat) : List Byte := (List.range n).map (fbByte s)

/-- Store received bytes at `FB[0..]` (R34). -/
def storeFb (bytes : List Byte) (s : State) : State := { s with fb := Memory.writeBytes s.fb 0 bytes }

/-- Copy bytes out to `HostBuf[0..]` in ascending order (R30, R195). -/
def storeHost (bytes : List Byte) (s : State) : State := { s with hostBuf := Memory.writeBytes s.hostBuf 0 bytes }

/-! ### Registers the operations write -/

/-- `pc <- p` (00_scope.md R12). -/
def setSeq (p : Seq) (s : State) : State := { s with seq := p }

/-- `x[status] <- v; pc <- GUARD`, the start of WRITE, READ and ERASE (R26, R190, R195, R198). -/
def startOperation (v : Status) (s : State) : State := { s with status := v, seq := .guard }

/-- `x[crc] <- v` (R32, R142). -/
def setCrc (v : BitVec 16) (s : State) : State := { s with crc := v }

/-- `x[sr] <- b` (R29, R160). -/
def setSr (b : Byte) (s : State) : State := { s with sr := b }

/-- Latch opcode bytes into `cmd`: byte i of the sequence into `cmd[i]`, for the four bytes the register has; the other
bytes keep their value (R28, R110; log 9). -/
def latchCmd (bytes : List Byte) (s : State) : State :=
  { s with cmd := ⟨bytes.getD 0 s.cmd.c0, bytes.getD 1 s.cmd.c1, bytes.getD 2 s.cmd.c2, bytes.getD 3 s.cmd.c3⟩ }

/-- Latch the address bytes (R28, R110). -/
def latchAdr (a : AdrReg) (s : State) : State := { s with adr := a }

/-- The five bytes of an identity read, in the order received (R21, R53 (d)). -/
def identityOf (bytes : List Byte) : Identity :=
  ⟨bytes.getD 0 0, bytes.getD 1 0, bytes.getD 2 0, bytes.getD 3 0, bytes.getD 4 0⟩

/-- `if x[pageCount] = 0 then x[identity] <- id`: INIT's write-once latch (R21, R123, R186). -/
def latchIdentity (id : Identity) (s : State) : State :=
  if s.pageCount = 0 then { s with identity := id } else s

/-- `if x[pageCount] = 0 then x[pageCount] <- KNOWN_PARTS[...]`: the write-once latch (R22, R186 step 6). -/
def latchPages (part : PartPages) (s : State) : State :=
  if s.pageCount = 0 then { s with pageCount := part.pages } else s

/-- `if x[busBound] = 0 then { x[busBound] <- 1; x[csId] <- CS_ID }` (R23, R186 step 1). -/
def bindBus (s : State) : State :=
  if s.busBound then s else { s with busBound := true, csId := s.csIdIn }

/-! ### Wire trace, chip select, transport (00_scope.md R14) -/

/-- Append one event to the wire trace. -/
def logEvent (e : Event) (s : State) : State := { s with trace := s.trace ++ [e] }

/-- `CsLow()` (R156). -/
def csLow (s : State) : State := { s with cs := false, trace := s.trace ++ [.cs0] }

/-- `CsHigh()` (R156). -/
def csHigh (s : State) : State := { s with cs := true, trace := s.trace ++ [.cs1] }

/-- What the environment answers to the next transfer: decided by the state's list, then free (R15; log 2). -/
def answer (s : State) : BusAnswer := s.bus.headD (Config.busAnswer s.draws)

/-- The next transfer's answer is used up. -/
def dropAnswer (s : State) : State := { s with bus := s.bus.tail, draws := s.draws + 1 }

/-- The `n` bytes a successful `Rx(n)` returns; a byte the answer does not list is free (R15 (b); log 19). -/
def received (s : State) (n : Nat) : List Byte :=
  (List.range n).map fun i => (answer s).bytes.getD i (Config.rxByte s.draws i)

/-- One transport call: `some` the bytes received on success, `none` on failure, with the event R14 gives. -/
def transfer (c : Call) (s : State) : Option (List Byte) × State :=
  match c with
  | .tx bytes =>
    if (answer s).ok then (some [], logEvent (.tx bytes) (dropAnswer s))
    else (none, logEvent (.txFail bytes) (dropAnswer s))
  | .rx n =>
    if (answer s).ok then (some (received s n), logEvent (.rx (received s n)) (dropAnswer s))
    else (none, logEvent (.rxFail n) (dropAnswer s))

/-- The calls of a frame in order, while every call succeeds (R157). -/
def runCalls : List Call → State → Option (List Byte) × State
  | [], s => (some [], s)
  | c :: cs, s =>
    match transfer c s with
    | (none, s1) => (none, s1)
    | (some bytes, s1) =>
      match runCalls cs s1 with
      | (none, s2) => (none, s2)
      | (some more, s2) => (some (bytes ++ more), s2)

/-- `RunFrame(calls)` (R157): one chip-select scope, released on every exit (R156). `some` the received bytes when
every call succeeded. -/
def runFrame (calls : List Call) (s : State) : Option (List Byte) × State :=
  ((runCalls calls (csLow (setSeq .frame s))).1,
    setSeq .gap (csHigh (runCalls calls (csLow (setSeq .frame s))).2))

/-! ### The tick source (R14, R163) -/

/-- The value the next `Tick()` returns: decided by the state's list, then free (R15; log 2). -/
def nextTick (s : State) : Tick := s.ticks.headD (Config.tick s.draws)

/-- `Tick()`: the event, and the value used up. -/
def readTick (s : State) : State :=
  { s with ticks := s.ticks.tail, draws := s.draws + 1, trace := s.trace ++ [.tick (nextTick s)] }

/-- `pc <- WAIT; x[t0] <- Tick()`, the start of both waits (R162, R164). -/
def startWait (s : State) : State := { readTick s with seq := .wait, t0 := nextTick s }

/-! ### The ends of an operation, and the wait in between -/

/-- `raise E` (60_exceptions.md R234): chip select released if it is low, status and response written, the sequencer
idle. Nothing is saved, masked or vectored. -/
def raise (e : ErrorKind) (s : State) : State :=
  let s1 := if s.cs then s else csHigh s
  { s1 with status := e.status, seq := .idle, rspStatus := e.status, rspBusy := false, flight := none }

/-- `return Ready` (00_scope.md R16), the success exit. -/
def returnReady (s : State) : State :=
  { s with status := .ready, seq := .idle, rspStatus := .ready, rspBusy := false, flight := none }

/-- The operation stands at the back edge of a wait loop: the next step goes on there (log 1). -/
def park (f : Flight) (s : State) : State := { s with flight := some f }

/-- The wait in progress is taken up again. -/
def unpark (s : State) : State := { s with flight := none }

end Sys2Proof.Machine
end

