-- ==== Sys2Proof/Machine/Guards.lean ====
section
/-! DEFINITION. The argument guards (43_operations.md R188, R189, R198, R202, R208): each is true when the request
passes. Sums and products are over naturals (20_memory.md R55, D27). -/

namespace Sys2Proof.Machine

/-- G0: some INIT has ended in Ready (R188). -/
def guardInit (s : State) : Bool := decide (s.pageCount ≠ 0)

/-- The bytes of a data frame: the payload and, with a checksum, two more (R189). -/
def frameLength (crc : Bool) (length : BitVec 16) : Nat := length.toNat + (if crc then 2 else 0)

/-- The bytes of the flash array (R52). -/
def arrayBytes (s : State) : Nat := s.pageCount.toNat * pageSize

/-- G1 to G4 of WRITE and READ, in order (R189). -/
def guardData (crc buf : Bool) (length : BitVec 16) (address : BitVec 32) (s : State) : Bool :=
  (decide (length ≠ 0) && buf)
    && decide (frameLength crc length ≤ pageSize)
    && decide (address.toNat % pageSize = 0)
    && decide (address.toNat < arrayBytes s)

/-- Alignment and bounds of the addressed erases, `u` the unit's byte size (R54, R55, R198). -/
def guardUnit (u : Nat) (address : BitVec 32) (s : State) : Bool :=
  decide (address.toNat % u = 0) && decide (address.toNat + u ≤ arrayBytes s)

/-- GP: the policy is one of the three (R208). -/
def guardPolicy (p : Policy) : Bool := decide (p ≠ .reserved)

/-- All guards of WRITE, in order: G0, G1 to G4, GP (R190). -/
def guardWrite (policy : Policy) (crc buf : Bool) (length : BitVec 16) (address : BitVec 32) (s : State) : Bool :=
  guardInit s && guardData crc buf length address s && guardPolicy policy

/-- The argument guards of READ: G0, G1 to G4 (R192); the frame grant comes after them (R194). -/
def guardRead (crc buf : Bool) (length : BitVec 16) (address : BitVec 32) (s : State) : Bool :=
  guardInit s && guardData crc buf length address s

/-- All guards of an addressed erase, in order: G0, alignment, bounds, GP (R198). -/
def guardErase (u : Nat) (policy : Policy) (address : BitVec 32) (s : State) : Bool :=
  guardInit s && guardUnit u address s && guardPolicy policy

/-- All guards of ERASE.CHIP, in order: G0, address zero, GP (R202). -/
def guardChip (policy : Policy) (address : BitVec 32) (s : State) : Bool :=
  guardInit s && decide (address = 0) && guardPolicy policy

/-- The guard of a wire command presented by itself: an initialised block (G0, R188) on a bound bus. Without it such a frame
would touch the bus of an uninitialised block, which only INIT and a bound ISBUSY may (R264), or drive an unbound one (D19). -/
def guardWire (s : State) : Bool := guardInit s && s.busBound

/-- The guards of an addressed wire command presented by itself, `u` the bytes of its unit: its operand is aligned and in bounds
(R115 to R120), as the requests' guards ensure where an operation emits it (R54, R55). So no address bit above the array is ever
sent: with `pageCount = 4096` only A[20:9] can be non-zero (R90). -/
def guardWireUnit (u : Nat) (address : BitVec 24) (s : State) : Bool :=
  guardWire s && guardUnit u (address.setWidth 32) s

end Sys2Proof.Machine
end

