-- ==== Sys2Proof/Machine/Encoder.lean ====
section
/-! DEFINITION. The Command Encoder (40_encoder.md R110 to R113): address packing and opcode selection. -/

namespace Sys2Proof.Machine

/-- The logical operations the encoder selects an opcode for: the eleven rows of R113. -/
inductive LogicalOp where
  | bufferWrite
  | programErase
  | programPlain
  | pageRead
  | pageErase
  | blockErase
  | sectorErase
  | chipErase
  | statusRead
  | idRead
  | pageSizeConfigure
deriving DecidableEq, Repr

/-- `EncOp` (R113): the opcode byte or sequence, all parameters of R9. -/
def encOp (p : Params) : LogicalOp → List Byte
  | .bufferWrite => [p.opBufwr]
  | .programErase => [p.opProgE]
  | .programPlain => [p.opProgNe]
  | .pageRead => [p.opPgrd]
  | .pageErase => [p.opPger]
  | .blockErase => [p.opBlker]
  | .sectorErase => [p.opSecer]
  | .chipErase => p.seqChiper.toList
  | .statusRead => [p.opSrrd]
  | .idRead => [p.opIdrd]
  | .pageSizeConfigure => p.seqPscfg

/-- The 24-bit address field `A` of `EncAddr(page, off)` (R111): the page index above bit 9, the offset below. -/
def addressField (page off : Nat) : BitVec 24 := BitVec.ofNat 24 (page <<< 9 ||| off)

/-- The three bytes of the address field, most significant first (R53 (a), R111). -/
def splitField (a : BitVec 24) : AdrReg := ⟨a.extractLsb' 16 8, a.extractLsb' 8 8, a.extractLsb' 0 8⟩

/-- `EncAddr(page, off)` (R111). -/
def encAddr (page off : Nat) : AdrReg := splitField (addressField page off)

/-- `EncAddrOfOffset(address)` (R111): the page of the byte offset, offset in page 0. -/
def encAddrOfOffset (address : Nat) : AdrReg := encAddr (address / pageSize) 0

/-- The bytes of the address registers in the order sent. -/
def AdrReg.toList (a : AdrReg) : List Byte := [a.a0, a.a1, a.a2]

end Sys2Proof.Machine
end

