-- ==== Sys2Proof/Machine/Operands.lean ====
section
/-! DEFINITION. The operand forms: the transport calls of the wire formats WF-A, WF-AD, WF-AR, WF-R and WF-4
(30_encoding.md R89, grouped as 42_framing_poll.md R158 says), and the checksum's two bytes in a frame. -/

namespace Sys2Proof.Machine

/-- WF-A: opcode, address. -/
def callsWfA (op : List Byte) (a : AdrReg) : List Call := [.tx op, .tx a.toList]

/-- WF-AD: opcode, address, payload, and the checksum when asked (R114, R144). -/
def callsWfAD (op : List Byte) (a : AdrReg) (payload : List Byte) (checksum : Option (BitVec 16)) : List Call :=
  [.tx op, .tx a.toList, .tx payload] ++
    match checksum with
    | none => []
    | some c => [.tx (crcBytes c)]

/-- WF-AR: opcode, address, four zero bytes, then the receive (R117). -/
def callsWfAR (op : List Byte) (a : AdrReg) (count : Nat) : List Call :=
  [.tx op, .tx a.toList, .tx [0, 0, 0, 0], .rx count]

/-- WF-R: opcode, then the receive (R122, R123). -/
def callsWfR (op : List Byte) (count : Nat) : List Call := [.tx op, .rx count]

/-- WF-4: one fixed sequence (R121, R124). -/
def callsWf4 (op : List Byte) : List Call := [.tx op]

/-- The bytes a call drives onto the wire when it succeeds: a receive drives RX_FILL (R159; log 23). -/
def Call.driven (p : Params) : Call → List Byte
  | .tx bytes => bytes
  | .rx n => List.replicate n p.rxFill

/-- The bytes of a frame, in order: the concatenation R158 compares frames by. -/
def drivenBytes (p : Params) (calls : List Call) : List Byte := calls.flatMap (Call.driven p)

/-- `CrcCheck(FB, length)` (41_checksum.md R145): the two bytes after the payload are the payload's checksum, high byte
first, compared byte for byte. -/
def crcCheck (fb : List Byte) (length : Nat) : Bool :=
  let c := crc16 (fb.take length)
  decide (fb.getD length 0 = c.extractLsb' 8 8) && decide (fb.getD (length + 1) 0 = c.extractLsb' 0 8)

end Sys2Proof.Machine
end

