-- ==== Sys2Proof/Machine/Frames.lean ====
section
/-! DEFINITION. The wire frames (40_encoder.md R114 to R124): each latches its opcode and address bytes, runs its
transport calls in one chip-select scope, and keeps what its rule keeps of the received bytes. `none` means that a
call failed; what is raised then is the emitting operation's matter (R114's template, R157). -/

namespace Sys2Proof.Machine

/-- A frame of format WF-A at a byte offset: `Tx([opc]); Tx(EncAddrOfOffset(address))` (R115, R116, R118 to R120). -/
def frameAddressed (op : LogicalOp) (address : Nat) (s : State) : Option (List Byte) × State :=
  runFrame (callsWfA (encOp s.params op) (encAddrOfOffset address))
    (latchAdr (encAddrOfOffset address) (latchCmd (encOp s.params op) s))

/-- A frame of one fixed sequence (R121, R124): no address bytes, `adr` is not written. -/
def frameSequence (op : LogicalOp) (s : State) : Option (List Byte) × State :=
  runFrame (callsWf4 (encOp s.params op)) (latchCmd (encOp s.params op) s)

/-- BUFWR (R114): the intra-buffer address is three zero bytes whatever the request's address is. -/
def frameBufwr (payload : List Byte) (checksum : Option (BitVec 16)) (s : State) : Option (List Byte) × State :=
  runFrame (callsWfAD (encOp s.params .bufferWrite) (encAddr 0 0) payload checksum)
    (latchAdr (encAddr 0 0) (latchCmd (encOp s.params .bufferWrite) s))

/-- PGRD (R117): the received bytes go to `FB[0..count-1]`. This is `MemRead(address, count)` of R13. -/
def framePgrd (address count : Nat) (s : State) : Option (List Byte) × State :=
  let r := runFrame (callsWfAR (encOp s.params .pageRead) (encAddrOfOffset address) count)
    (latchAdr (encAddrOfOffset address) (latchCmd (encOp s.params .pageRead) s))
  match r.1 with
  | none => (none, r.2)
  | some bytes => (some bytes, storeFb bytes r.2)

/-- SRRD (R122): `sr` takes the byte received, only when both calls succeeded. This is `StatusRead()` (R160): `none`
is XferFail. -/
def frameSrrd (s : State) : Option (List Byte) × State :=
  let r := runFrame (callsWfR (encOp s.params .statusRead) 1) (latchCmd (encOp s.params .statusRead) s)
  match r.1 with
  | none => (none, r.2)
  | some bytes => (some bytes, setSr (bytes.headD 0) r.2)

/-- IDRD (R123): the five bytes received, for INIT, which checks them and stores them under its write-once condition
(R186 step 3). The frame itself writes no `identity`: only INIT does (R21). -/
def frameIdrd (s : State) : Option (List Byte) × State :=
  runFrame (callsWfR (encOp s.params .idRead) idBytes) (latchCmd (encOp s.params .idRead) s)

end Sys2Proof.Machine
end

