-- ==== Sys2Proof/Machine/Wait.lean ====
section
/-! DEFINITION. The two wait loops and the completion policy (42_framing_poll.md R160 to R166). One pass of a loop body is
one function here; a loop that goes round again parks the operation, and the next step runs the next pass (log 1). -/

namespace Sys2Proof.Machine

/-- How one pass of BusyPoll's loop ends (R162): the three results, or round again. -/
inductive PollResult where
  | done
  | expired
  | xferFail
  | again
deriving DecidableEq, Repr

/-- One pass of BusyPoll's loop (R162): status read first, busy test second, time third; the comparison is strict.
The phase stays GAP, where the status frame left it (log 8). -/
def pollOnce (budget : Tick) (s : State) : PollResult × State :=
  let r := frameSrrd s
  match r.1 with
  | none => (.xferFail, r.2)
  | some _ =>
    if deviceBusy r.2.params r.2.sr then
      if elapsed r.2.t0 (nextTick r.2) > budget then (.expired, readTick r.2) else (.again, readTick r.2)
    else (.done, r.2)

/-- One pass of FixedDelay's loop (R164): true when the delay has run out. -/
def delayOnce (ticks : Tick) (s : State) : Bool × State :=
  (decide (elapsed s.t0 (nextTick s) ≥ ticks), readTick s)

/-- A completion poll: Ready when done, ErrorTimeout on expiry or transport failure, else round again (R165). -/
def completePoll (budget : Tick) (s : State) : State :=
  let r := pollOnce budget s
  match r.1 with
  | .done => returnReady r.2
  | .expired => raise .timeout r.2
  | .xferFail => raise .timeout r.2
  | .again => park (.poll budget) r.2

/-- A completion delay: Ready when it has run out, else round again (R164, R165). -/
def completeDelay (ticks : Tick) (s : State) : State :=
  let r := delayOnce ticks s
  if r.1 then returnReady r.2 else park (.delay ticks) r.2

/-- `Complete(policy, T)` and the `return Ready` after it (R165). The fourth policy value never reaches it: the guard
GP has raised ErrorArgument (R208); the function answers that error for it too. -/
def complete (policy : Policy) (t : Tick) (s : State) : State :=
  match policy with
  | .noWait => returnReady s
  | .fixedDelay => completeDelay t (startWait s)
  | .busyPoll => completePoll t (startWait s)
  | .reserved => raise .argument s

end Sys2Proof.Machine
end

