-- ==== Sys2Proof/Machine/DataOps.lean ====
section
/-! DEFINITION. WRITE (43_operations.md R190, R191) and READ (R192 to R196). -/

namespace Sys2Proof.Machine

/-- WRITE's program command: with or without erase (R190). -/
def programOp (ebw : Bool) : LogicalOp := if ebw then .programErase else .programPlain

/-- WRITE's timing constant (R166). -/
def programTime (ebw : Bool) (p : Params) : Tick := if ebw then p.tProgE else p.tProgNe

/-- WRITE's checksum over the payload, when asked: into the accumulator and the frame (R146, R190). -/
def writeChecksum (crc : Bool) (payload : List Byte) : Option (BitVec 16) :=
  if crc then some (crc16 payload) else none

/-- `x[crc]` takes the checksum when one was computed (R140). -/
def latchChecksum (c : Option (BitVec 16)) (s : State) : State :=
  match c with
  | none => s
  | some v => setCrc v s

/-- WRITE phase 2 (program) and the completion policy. -/
def writeProgram (policy : Policy) (ebw : Bool) (address : Nat) (s : State) : State :=
  let r := frameAddressed (programOp ebw) address s
  match r.1 with
  | none => raise .timeout r.2
  | some _ => complete policy (programTime ebw r.2.params) r.2

/-- WRITE after its guards: phase 1 (buffer load), then phase 2; a failure in phase 1 aborts before phase 2.
The two frames are `MemWrite(address, length, HostBuf)` of R13. -/
def writeFrames (policy : Policy) (crc ebw : Bool) (length address : Nat) (s : State) : State :=
  let r := frameBufwr (hostBytes s length) (writeChecksum crc (hostBytes s length))
    (latchChecksum (writeChecksum crc (hostBytes s length)) s)
  match r.1 with
  | none => raise .timeout r.2
  | some _ => writeProgram policy ebw address r.2

/-- WRITE (R190), up to its end or its first back edge. -/
def opWrite (policy : Policy) (crc ebw buf : Bool) (length : BitVec 16) (address : BitVec 32) (s : State) : State :=
  let s1 := startOperation .busyWrite s
  if guardWrite policy crc buf length address s1 then writeFrames policy crc ebw length.toNat address.toNat s1
  else raise .argument s1

/-- WRITE (R190). -/
def execWrite (policy : Policy) (crc ebw buf : Bool) (length : BitVec 16) (address : BitVec 32) (s : State) :
    Host.Outcome State Fault Refusal :=
  .next (opWrite policy crc ebw buf length address s)

/-- READ's copy-out and `return Ready` (R193, R195). -/
def readCopyOut (length : Nat) (s : State) : State := returnReady (storeHost (fbBytes s length) s)

/-- READ's checksum compare, over the payload bytes of FB and the two after them (R145, R195). -/
def readVerify (length : Nat) (s : State) : State :=
  let s1 := setCrc (crc16 (fbBytes s length)) s
  if crcCheck (fbBytes s (length + 2)) length then readCopyOut length s1 else raise .checksum s1

/-- READ after its guards and its grant: one PGRD frame, closed before the verification (R196 (a)). -/
def readFrame (crc : Bool) (length : BitVec 16) (address : Nat) (s : State) : State :=
  let r := framePgrd address (frameLength crc length) s
  match r.1 with
  | none => raise .timeout r.2
  | some _ =>
    let s1 := setSeq .verify r.2
    if crc then readVerify length.toNat s1 else readCopyOut length.toNat s1

/-- READ (R195): the argument guards, then the frame grant GA (R194), then the frame. -/
def opRead (crc buf : Bool) (length : BitVec 16) (address : BitVec 32) (s : State) : State :=
  let s1 := startOperation .busyRead s
  if guardRead crc buf length address s1 then
    if s1.frameGrant then readFrame crc length address.toNat s1 else raise .memoryAllocation s1
  else raise .argument s1

/-- READ (R195). -/
def execRead (crc buf : Bool) (length : BitVec 16) (address : BitVec 32) (s : State) :
    Host.Outcome State Fault Refusal :=
  .next (opRead crc buf length address s)

end Sys2Proof.Machine
end

