-- ==== Sys2Proof/Machine/EraseOps.lean ====
section
/-! DEFINITION. The ERASE operations (43_operations.md R197 to R204). There is no address-zero sentinel: the selector
alone decides which erase it is (R197). -/

namespace Sys2Proof.Machine

/-- `EraseUnit(U, opc, T)`, the common body of the addressed erases (R198). -/
def eraseUnit (u : Nat) (op : LogicalOp) (t : Tick) (policy : Policy) (address : BitVec 32) (s : State) : State :=
  let s1 := startOperation .busyErase s
  if guardErase u policy address s1 then
    let r := frameAddressed op address.toNat s1
    match r.1 with
    | none => raise .timeout r.2
    | some _ => complete policy t r.2
  else raise .argument s1

/-- ERASE.PAGE (R199). -/
def execErasePage (policy : Policy) (address : BitVec 32) (s : State) : Host.Outcome State Fault Refusal :=
  .next (eraseUnit pageSize .pageErase s.params.tPger policy address s)

/-- ERASE.BLOCK (R200). -/
def execEraseBlock (policy : Policy) (address : BitVec 32) (s : State) : Host.Outcome State Fault Refusal :=
  .next (eraseUnit blockBytes .blockErase s.params.tBlker policy address s)

/-- ERASE.SECTOR (R201). -/
def execEraseSector (policy : Policy) (address : BitVec 32) (s : State) : Host.Outcome State Fault Refusal :=
  .next (eraseUnit sectorBytes .sectorErase s.params.tSecer policy address s)

/-- The body of ERASE.CHIP (R202): address zero, no bounds test, no address bytes on the wire. -/
def opEraseChip (policy : Policy) (address : BitVec 32) (s : State) : State :=
  let s1 := startOperation .busyErase s
  if guardChip policy address s1 then
    let r := frameSequence .chipErase s1
    match r.1 with
    | none => raise .timeout r.2
    | some _ => complete policy r.2.params.tChiper r.2
  else raise .argument s1

/-- ERASE.CHIP (R202). -/
def execEraseChip (policy : Policy) (address : BitVec 32) (s : State) : Host.Outcome State Fault Refusal :=
  .next (opEraseChip policy address s)

/-- ERASE with an unrecognised granularity (R203): before G0 and every address guard. The selector's value decides
nothing more. -/
def execEraseUnrecognised (s : State) : Host.Outcome State Fault Refusal :=
  .next (raise .instruction (startOperation .busyErase s))

end Sys2Proof.Machine
end

