-- ==== Sys2Proof/Machine/Init.lean ====
section
/-! DEFINITION. INIT (43_operations.md R186, R187), in the pieces its two waits cut it into. -/

namespace Sys2Proof.Machine

/-- Step 6 and `return Ready`: `pageCount` is written once (R22, R187 (e)). -/
def initFinish (part : PartPages) (s : State) : State := returnReady (latchPages part s)

/-- Step 5 after the delay: the status byte is read again and the mode verified. -/
def initVerify (part : PartPages) (s : State) : State :=
  let r := frameSrrd s
  match r.1 with
  | none => raise .initialization r.2
  | some _ => if binaryMode r.2.params r.2.sr then initFinish part r.2 else raise .initialization r.2

/-- Step 5's FixedDelay(T_CONFIG), one pass of its loop (R164). -/
def initDelay (part : PartPages) (s : State) : State :=
  let r := delayOnce s.params.tConfig s
  if r.1 then initVerify part r.2 else park (.initConfig part) r.2

/-- Step 5's reconfiguration: the PSCFG frame, then the delay. -/
def initConfigure (part : PartPages) (s : State) : State :=
  let r := frameSequence .pageSizeConfigure s
  match r.1 with
  | none => raise .initialization r.2
  | some _ => initDelay part (startWait r.2)

/-- Step 5: a fresh status read (R187 (b)); reconfigure only when not in binary mode (R187 (a)). -/
def initMode (part : PartPages) (s : State) : State :=
  let r := frameSrrd s
  match r.1 with
  | none => raise .initialization r.2
  | some _ => if binaryMode r.2.params r.2.sr then initFinish part r.2 else initConfigure part r.2

/-- Steps 3 and 4 after the identity has been received: the checks use the bytes just received (R187 (e)). -/
def initCheck (bytes : List Byte) (s : State) : State :=
  if bytes.getD 0 0 ≠ manufacturerId then raise .initialization s
  else
    match partOf s.params (bytes.getD 1 0) with
    | none => raise .initialization s
    | some part => initMode part s

/-- Step 3: the identity read; all five bytes are stored before the checks, while `pageCount` is 0 (R123, D17). Besides
reset this is the one place that writes `identity` (R21). -/
def initIdentify (s : State) : State :=
  let r := frameIdrd s
  match r.1 with
  | none => raise .timeout r.2
  | some bytes => initCheck bytes (latchIdentity (identityOf bytes) r.2)

/-- Step 2's BusyPoll(T_RESP), one pass of its loop (R162). -/
def initPoll (s : State) : State :=
  let r := pollOnce s.params.tResp s
  match r.1 with
  | .done => initIdentify r.2
  | .expired => raise .timeout r.2
  | .xferFail => raise .timeout r.2
  | .again => park .initReady r.2

/-- Step 1: both straps valid, checked at every call (R267). -/
def guardStraps (s : State) : Bool := s.busOk && decide (s.csIdIn ≠ 0)

/-- INIT up to its end or its first back edge. `status` keeps its value until the outcome (R26, D22). -/
def opInit (s : State) : State :=
  if guardStraps s then initPoll (startWait (bindBus (setSeq .guard s)))
  else raise .argument (setSeq .guard s)

/-- INIT (R186). -/
def execInit (s : State) : Host.Outcome State Fault Refusal := .next (opInit s)

end Sys2Proof.Machine
end

