-- ==== Sys2Proof/Machine/SystemOps.lean ====
section
/-! DEFINITION. ISBUSY (43_operations.md R205, R206) and the reserved requests (R207). -/

namespace Sys2Proof.Machine

/-- The response of ISBUSY: `status` unchanged and presented, the busy flag as answered (R33, R205). -/
def respondBusy (busy : Bool) (s : State) : State := { s with rspStatus := s.status, rspBusy := busy }

/-- ISBUSY's body (R205): with the bus unbound it answers busy and writes nothing (log 20); a failed transfer
answers busy. -/
def opIsBusy (s : State) : State :=
  if s.busBound then
    let r := frameSrrd s
    let s1 := setSeq .idle r.2
    match r.1 with
    | none => respondBusy true s1
    | some _ => respondBusy (deviceBusy s1.params s1.sr) s1
  else respondBusy true s

/-- ISBUSY (R205). -/
def execIsBusy (s : State) : Host.Outcome State Fault Refusal := .next (opIsBusy s)

/-- RESERVED, op = 5 (R207). -/
def execReserved5 (s : State) : Host.Outcome State Fault Refusal := .next (raise .argument (setSeq .guard s))

/-- RESERVED, op = 6 or 7 (R207). -/
def execReserved67 (s : State) : Host.Outcome State Fault Refusal := .next (raise .argument (setSeq .guard s))

end Sys2Proof.Machine
end

