-- ==== Sys2Proof/Machine/Wire.lean ====
section
/-! DEFINITION. The eleven wire commands as instructions of their own (40_encoder.md R114 to R124; log 4): each runs its
frame, if the block is initialised, its bus bound (R264, D19) and its address, where it has one, aligned and in bounds (R115
to R120). A failed call raises nothing here: which error it is is the emitting operation's rule (R114's template), and there
is none. The sequencer returns to IDLE (R24). -/

namespace Sys2Proof.Machine

/-- A frame run by itself: its state, the sequencer idle again. When its guard fails it touches no bus and raises ErrorArgument,
as G0 does for an operation that comes too early (R188) and the address guards do for an operand out of its range (R54, R55).
That a wire command is presented by itself, and that these errors are then the requests', is the model's choice (log 4). -/
def standAlone (guard : Bool) (frame : State → Option (List Byte) × State) (s : State) :
    Host.Outcome State Fault Refusal :=
  .next (if guard then setSeq .idle (frame s).2 else raise .argument s)

/-- BUFWR (R114). -/
def execBufwr (payload : List Byte) (checksum : Option (BitVec 16)) (s : State) :
    Host.Outcome State Fault Refusal :=
  standAlone (guardWire s) (frameBufwr payload checksum) s

/-- PROG.E (R115). -/
def execProgE (address : BitVec 24) (s : State) : Host.Outcome State Fault Refusal :=
  standAlone (guardWireUnit pageSize address s) (frameAddressed .programErase address.toNat) s

/-- PROG.NE (R116). -/
def execProgNe (address : BitVec 24) (s : State) : Host.Outcome State Fault Refusal :=
  standAlone (guardWireUnit pageSize address s) (frameAddressed .programPlain address.toNat) s

/-- PGRD (R117). FB has 512 bytes (R34): a larger count is no operand of R117 and faults (log 17). DESIGN CHOICE (log 4): by
itself it stores into FB, as R117 says, whatever `frame_grant` is: R194 has only READ sample the grant, and R34, which ties FB's
availability to it and has only READ write FB, has no word on a page read that no READ emits. -/
def execPgrd (address : BitVec 24) (count : Nat) (s : State) : Host.Outcome State Fault Refusal :=
  if count ≤ pageSize then standAlone (guardWireUnit pageSize address s) (framePgrd address.toNat count) s
  else .fault (.frameBuffer count)

/-- PGER (R118). -/
def execPger (address : BitVec 24) (s : State) : Host.Outcome State Fault Refusal :=
  standAlone (guardWireUnit pageSize address s) (frameAddressed .pageErase address.toNat) s

/-- BLKER (R119). -/
def execBlker (address : BitVec 24) (s : State) : Host.Outcome State Fault Refusal :=
  standAlone (guardWireUnit blockBytes address s) (frameAddressed .blockErase address.toNat) s

/-- SECER (R120). -/
def execSecer (address : BitVec 24) (s : State) : Host.Outcome State Fault Refusal :=
  standAlone (guardWireUnit sectorBytes address s) (frameAddressed .sectorErase address.toNat) s

/-- CHIPER (R121). -/
def execChiper (s : State) : Host.Outcome State Fault Refusal := standAlone (guardWire s) (frameSequence .chipErase) s

/-- SRRD (R122). -/
def execSrrd (s : State) : Host.Outcome State Fault Refusal := standAlone (guardWire s) frameSrrd s

/-- IDRD (R123). By itself it stores nothing in `identity`, which only INIT writes (R21, R186 step 3): the five bytes received
stand in the wire trace alone. -/
def execIdrd (s : State) : Host.Outcome State Fault Refusal := standAlone (guardWire s) frameIdrd s

/-- PSCFG (R124). -/
def execPscfg (s : State) : Host.Outcome State Fault Refusal := standAlone (guardWire s) (frameSequence .pageSizeConfigure) s

end Sys2Proof.Machine
end

