-- ==== Sys2Proof/Machine/Dispatch.lean ====
section
/-! DEFINITION. One arm per instruction, each one call of its meaning. -/

namespace Sys2Proof.Machine

def exec (i : Instr) (s : State) : Host.Outcome State Fault Refusal :=
  match i with
  -- wire commands
  | .bufwr payload checksum => Sys2Proof.Machine.execBufwr payload checksum s
  | .progE address => Sys2Proof.Machine.execProgE address s
  | .progNe address => Sys2Proof.Machine.execProgNe address s
  | .pgrd address count => Sys2Proof.Machine.execPgrd address count s
  | .pger address => Sys2Proof.Machine.execPger address s
  | .blker address => Sys2Proof.Machine.execBlker address s
  | .secer address => Sys2Proof.Machine.execSecer address s
  | .chiper => Sys2Proof.Machine.execChiper s
  | .srrd => Sys2Proof.Machine.execSrrd s
  | .idrd => Sys2Proof.Machine.execIdrd s
  | .pscfg => Sys2Proof.Machine.execPscfg s
  -- host requests
  | .init => Sys2Proof.Machine.execInit s
  | .write policy crc ebw buf length address => Sys2Proof.Machine.execWrite policy crc ebw buf length address s
  | .read crc buf length address => Sys2Proof.Machine.execRead crc buf length address s
  | .erasePage policy address => Sys2Proof.Machine.execErasePage policy address s
  | .eraseBlock policy address => Sys2Proof.Machine.execEraseBlock policy address s
  | .eraseSector policy address => Sys2Proof.Machine.execEraseSector policy address s
  | .eraseChip policy address => Sys2Proof.Machine.execEraseChip policy address s
  | .eraseUnrecognised _ => Sys2Proof.Machine.execEraseUnrecognised s
  | .isBusy => Sys2Proof.Machine.execIsBusy s
  | .reserved5 => Sys2Proof.Machine.execReserved5 s
  | .reserved67 _ => Sys2Proof.Machine.execReserved67 s

end Sys2Proof.Machine
end

