-- ==== Sys2Proof/Machine/Sequencer.lean ====
section
/-! DEFINITION. What a step is made of: taking the presented code, going on with a wait in progress, and reset. -/

namespace Sys2Proof.Machine

/-- What the port presents, decoded (R87). -/
def fetch (s : State) : Option (Except DecodeError Instr) := s.port.map decode

/-- The presented code is accepted: the port is free for the next (R185). -/
def accept (s : State) : State := { s with port := none }

/-- An accepted frame that decodes to no instruction: a misaligned address or a size out of range (R114 to R120), bytes that do not
have the format of their row (R89), or an opcode of no row (R91). DESIGN CHOICE (log 4): ErrorArgument with no bus event, the
answer the requests' guards give such operands (R54, R55, R189) and R207 gives a request that does not exist. -/
def rejectFrame (s : State) : State := raise .argument s

/-- A code presented to an idle sequencer that is not held in reset. -/
def present (c : Code) (s : State) : State :=
  { s with port := some c, resetIn := false, seq := .idle, flight := none }

/-- The operation in progress goes on at the back edge it stands at, to its end or the next back edge (R167; log 1). -/
def resume (f : Flight) (s : State) : State :=
  match f with
  | .initReady => initPoll s
  | .initConfig part => initDelay part s
  | .poll budget => completePoll budget s
  | .delay ticks => completeDelay ticks s

/-- Reset (R260), also in the middle of an operation (R261): an open scope is closed by one CS1, no response is
delivered, every register takes its reset value. The environment stays as it is. -/
def resetBlock (s : State) : State := State.resetRegisters (if s.cs then s else csHigh s)

end Sys2Proof.Machine
end

