-- ==== Sys2Proof/Machine/Step.lean ====
section
/-! DEFINITION. One step of the block. -/

namespace Sys2Proof.Machine

/-- One step: while reset is asserted, reset (R260); at IDLE, the presented code is accepted, decoded and run, and with
nothing presented the block waits (R185, R260; log 16), a frame that decodes to nothing being answered with ErrorArgument (log 4); otherwise the operation in progress goes on (log 1). Nothing is
accepted while the sequencer is not idle (R185, R268). -/
def step (s : State) : Host.Outcome State Fault Refusal :=
  if s.resetIn then .next (resetBlock s)
  else if s.seq = .idle then
    match fetch s with
    | none => .next s
    | some (.ok i) => exec i (accept s)
    | some (.error _) => .next (rejectFrame (accept s))
  else
    match s.flight with
    | none => .next s
    | some f => .next (resume f (unpark s))

/-- The state whose next step runs the instruction of a word of the opcode table (log 22). -/
def State.withFetchWord (s : State) (nbits w : Nat) : State := present (tableCode nbits w) s

end Sys2Proof.Machine
end

