-- ==== Sys2Proof/Machine/Asm.lean ====
section
/-! DEFINITION. The request words of the textual forms of 30_encoding.md R94 and R95: `buf` defaults to 1, a field that
is not written is 0, ERASE.CHIP without an address has address 0 (log 21). -/

namespace Sys2Proof.Machine

/-- `INIT` -/
def asmInit : BitVec 64 := requestWord 0 0 0 false false false 0 0

/-- `WRITE addr, len, crc=, erase=, policy [, buf=]` -/
def asmWrite (addr : BitVec 32) (len : BitVec 16) (crc erase : Bool) (policy : Policy) (buf : Bool := true) :
    BitVec 64 :=
  requestWord 1 0 (policyBits policy) crc erase buf len addr

/-- `READ addr, len, crc= [, buf=]` -/
def asmRead (addr : BitVec 32) (len : BitVec 16) (crc : Bool) (buf : Bool := true) : BitVec 64 :=
  requestWord 2 0 0 crc false buf len addr

/-- `ERASE.PAGE addr, policy` -/
def asmErasePage (addr : BitVec 32) (policy : Policy) : BitVec 64 := eraseWord 0 policy addr

/-- `ERASE.BLOCK addr, policy` -/
def asmEraseBlock (addr : BitVec 32) (policy : Policy) : BitVec 64 := eraseWord 1 policy addr

/-- `ERASE.SECTOR addr, policy` -/
def asmEraseSector (addr : BitVec 32) (policy : Policy) : BitVec 64 := eraseWord 2 policy addr

/-- `ERASE.CHIP [addr,] policy` -/
def asmEraseChip (policy : Policy) (addr : BitVec 32 := 0) : BitVec 64 := eraseWord 3 policy addr

/-- `ERASE.G<n> addr, policy`, n = 4 to 7. -/
def asmEraseG (n : BitVec 3) (addr : BitVec 32) (policy : Policy) : BitVec 64 := eraseWord n policy addr

/-- `ISBUSY` -/
def asmIsBusy : BitVec 64 := requestWord 4 0 0 false false false 0 0

end Sys2Proof.Machine
end

