-- ==== Sys2Proof/Machine/HostPort.lean ====
section
/-! DEFINITION. What the host can see and do (10_state.md R23, R30, R33; 60_exceptions.md R240; 70_reset_and_hazards.md
R260, R268). There is no write port on any register. -/

namespace Sys2Proof.Machine

/-- The host's read port on `status` (R240). -/
def hostStatus (s : State) : BitVec 4 := s.status.code

/-- The host's read port on `identity` (R21, R240). -/
def hostIdentity (s : State) : Identity := s.identity

/-- The host's read port on `pageCount` (R240). -/
def hostPageCount (s : State) : BitVec 16 := s.pageCount

/-- The response port (R33). -/
def hostResponse (s : State) : BitVec 4 × Bool := (s.rspStatus.code, s.rspBusy)

/-- The sequencer is idle: a response has been delivered and a request is accepted (R24). -/
def hostIdle (s : State) : Bool := decide (s.seq = .idle)

/-- The host presents a request word; the port holds one, a second is held off (R268). -/
def hostRequest (w : BitVec 64) (s : State) : State :=
  match s.port with
  | none => { s with port := some (.request w) }
  | some _ => s

/-- The platform drives the straps (R23, R267). -/
def hostStraps (busOk : Bool) (csId : BitVec 16) (s : State) : State := { s with busOk := busOk, csIdIn := csId }

/-- The host drives `frame_grant` (R194). -/
def hostGrant (g : Bool) (s : State) : State := { s with frameGrant := g }

/-- The host drives the reset input (R260). -/
def hostReset (r : Bool) (s : State) : State := { s with resetIn := r }

/-- The host fills its buffer before a request (R30, R273). -/
def hostFill (bytes : List Byte) (s : State) : State := { s with hostBuf := Memory.writeBytes s.hostBuf 0 bytes }

/-- One operation as the host sees it: steps until the sequencer is idle with nothing presented, at most `fuel` of
them; `none` when the fuel runs out or the machine stops. -/
def runOperation : Nat → State → Option State
  | 0, _ => none
  | fuel + 1, s =>
    match step s with
    | .next t => if hostIdle t && t.port.isNone then some t else runOperation fuel t
    | .fault _ => none
    | .refused _ => none

/-- `WAITREADY` (R95 (b)): the caller's loop of ISBUSY until it answers not busy, at most `tries` times. It is not an
operation of the block. -/
def waitReady : Nat → State → Option State
  | 0, _ => none
  | tries + 1, s =>
    match runOperation 2 (hostRequest asmIsBusy s) with
    | none => none
    | some t => if t.rspBusy then waitReady tries t else some t

end Sys2Proof.Machine
end

