-- ==== Sys2Proof/Safety.lean ====
section
/-! DEFINITION. What counts as a safe run, in the terms claims use: a well-framed wire trace (42_framing_poll.md
R156) and the invariants between steps (10_state.md R36). -/

namespace Sys2Proof.Machine

/-- Read a wire trace from a chip-select level (true = deasserted) to the level it ends at; `none` where it breaks
R156: CS0 and CS1 alternate starting with CS0, transfers lie inside a scope, TICK lies outside. -/
def scanTrace : Bool → List Event → Option Bool
  | level, [] => some level
  | true, .cs0 :: es => scanTrace false es
  | true, .tick _ :: es => scanTrace true es
  | true, _ :: _ => none
  | false, .cs1 :: es => scanTrace true es
  | false, .tx _ :: es => scanTrace false es
  | false, .txFail _ :: es => scanTrace false es
  | false, .rx _ :: es => scanTrace false es
  | false, .rxFail _ :: es => scanTrace false es
  | false, .cs0 :: _ => none
  | false, .tick _ :: _ => none

/-- Every frame of the trace is framed as R156 (a) to (e) say, and no scope is open. -/
abbrev WellFramed (trace : List Event) : Prop := scanTrace true trace = some true

/-- The state of the identity latches fits what a flight of INIT found: once `pageCount` is still to be written, the
identity names the part that will be written (R186). -/
def FlightFits (s : State) : Prop :=
  match s.flight with
  | none => True
  | some .initReady => s.busBound = true
  | some (.initConfig part) =>
    s.busBound = true ∧
      (s.pageCount = 0 → s.identity.b0 = manufacturerId ∧ partOf s.params s.identity.b1 = some part)
  | some (.poll _) => s.pageCount ≠ 0 ∧ s.status.isBusy = true
  | some (.delay _) => s.pageCount ≠ 0 ∧ s.status.isBusy = true

/-- The invariants of R36 as they stand between two steps; with nothing in flight they are R36's own. -/
structure StateInv (s : State) : Prop where
  /-- R31, R36 (a): no scope is open between steps. -/
  released : s.cs = true
  /-- R156: the wire trace is well framed. -/
  framed : WellFramed s.trace
  /-- R36 (a): with nothing in flight the sequencer is idle; it is not inside a frame between steps. -/
  phase : s.flight = none ↔ s.seq = .idle
  /-- R36 (b): with nothing in flight the status is no busy value. -/
  notBusy : s.flight = none → s.status.isBusy = false
  /-- R36 (c), one direction: an initialised block names a known part by the right manufacturer. -/
  part : s.pageCount ≠ 0 → s.identity.b0 = manufacturerId ∧
    (partOf s.params s.identity.b1).map PartPages.pages = some s.pageCount
  /-- R36 (d). -/
  resetStatus : s.status = .reset → s.pageCount = 0
  /-- R36 (e), and that a bound bus has a chip-select identifier (R23). -/
  bound : (s.pageCount ≠ 0 → s.busBound = true) ∧ (s.busBound = true → s.csId ≠ 0)
  /-- R36 (c), the other direction: Ready is reached only with a page count. -/
  readyStatus : s.status = .ready → s.pageCount ≠ 0
  /-- The wait in progress fits the latches. -/
  flight : FlightFits s
  /-- FB and HostBuf keep their canonical form, and FB has the indices 0 to 511 (R34). -/
  memory : Memory.wf s.fb = true ∧ Memory.wf s.hostBuf = true ∧ ∀ c ∈ s.fb, c.1 < pageSize

/-- How an operation ends: status and response written, the sequencer idle, nothing in flight (R16, R33, R234). -/
def ended (v : Status) (s : State) : State :=
  { s with status := v, seq := .idle, rspStatus := v, rspBusy := false, flight := none }

/-- The wire commands among the instructions (R91). -/
def isWire : Instr → Bool
  | .bufwr _ _ | .progE _ | .progNe _ | .pgrd _ _ | .pger _ | .blker _ | .secer _ | .chiper | .srrd | .idrd
  | .pscfg => true
  | .init | .write _ _ _ _ _ _ | .read _ _ _ _ | .erasePage _ _ | .eraseBlock _ _ | .eraseSector _ _
  | .eraseChip _ _ | .eraseUnrecognised _ | .isBusy | .reserved5 | .reserved67 _ => false

/-- The address of an addressed wire command is aligned to its unit, and the unit lies inside an array of so many pages (R115 to
R120, R52). The other instructions send no address of their own. -/
def AddressFits (pages : Nat) : Instr → Prop
  | .progE a | .progNe a | .pgrd a _ | .pger a => a.toNat % 512 = 0 ∧ a.toNat + 512 ≤ pages * 512
  | .blker a => a.toNat % 4096 = 0 ∧ a.toNat + 4096 ≤ pages * 512
  | .secer a => a.toNat % 131072 = 0 ∧ a.toNat + 131072 ≤ pages * 512
  | .bufwr _ _ | .chiper | .srrd | .idrd | .pscfg | .init | .write _ _ _ _ _ _ | .read _ _ _ _ | .erasePage _ _
  | .eraseBlock _ _ | .eraseSector _ _ | .eraseChip _ _ | .eraseUnrecognised _ | .isBusy | .reserved5
  | .reserved67 _ => True

/-- The block runs the wire command `i` by itself: it is initialised (R264), its bus is bound (D19), and the address fits. -/
def WireRuns (s : State) (i : Instr) : Prop :=
  s.pageCount ≠ 0 ∧ s.busBound = true ∧ AddressFits s.pageCount.toNat i

/-- An event that may stand inside a chip-select scope (R156 (b)). -/
def Event.isTransfer : Event → Bool
  | .tx _ => true
  | .txFail _ => true
  | .rx _ => true
  | .rxFail _ => true
  | .cs0 => false
  | .cs1 => false
  | .tick _ => false

/-- The event of a call that fails (R14). -/
def Call.failEvent : Call → Event
  | .tx bytes => .txFail bytes
  | .rx n => .rxFail n

/-- The events of one chip-select scope around these transfer events (R156). -/
def scope (transfers : List Event) : List Event := .cs0 :: transfers ++ [.cs1]

/-- The events of frames of transmits that all succeed, one scope each (R156, R157). -/
def scopesOf (frames : List (List (List Byte))) : List Event :=
  frames.flatMap fun calls => .cs0 :: calls.map Event.tx ++ [.cs1]

/-- `Admitted s policy i time frames latched`: the guards of the WRITE or ERASE `i` pass in `s` (R188, R189, R198, R202,
R208), `time` is its time constant (R166), `frames` are its frames as the byte lists it transmits (R190, R198, R202), and
`latched` is `s` with the status, the scratch bytes and the checksum those frames leave. -/
inductive Admitted (s : State) (policy : Policy) : Instr → Tick → List (List (List Byte)) → State → Prop where
  | write (crc ebw : Bool) (length : BitVec 16) (address : BitVec 32) (valid : policy ≠ .reserved) (nonempty : length ≠ 0)
      (fits : length.toNat + (if crc then 2 else 0) ≤ 512) (aligned : address.toNat % 512 = 0)
      (bound : address.toNat < s.pageCount.toNat * 512) :
      Admitted s policy (.write policy crc ebw true length address)
        (if ebw then s.params.tProgE else s.params.tProgNe)
        [[[s.params.opBufwr], [0, 0, 0], hostBytes s length.toNat] ++
            (if crc then [crcBytes (crc16 (hostBytes s length.toNat))] else []),
          [[if ebw then s.params.opProgE else s.params.opProgNe], (encAddrOfOffset address.toNat).toList]]
        { s with
          status := .busyWrite, cmd := { s.cmd with c0 := if ebw then s.params.opProgE else s.params.opProgNe },
          adr := encAddrOfOffset address.toNat, crc := if crc then crc16 (hostBytes s length.toNat) else s.crc }
  | erasePage (address : BitVec 32) (valid : policy ≠ .reserved) (init : s.pageCount ≠ 0)
      (aligned : address.toNat % 512 = 0) (bound : address.toNat + 512 ≤ s.pageCount.toNat * 512) :
      Admitted s policy (.erasePage policy address) s.params.tPger
        [[[s.params.opPger], (encAddrOfOffset address.toNat).toList]]
        { s with
          status := .busyErase, cmd := { s.cmd with c0 := s.params.opPger }, adr := encAddrOfOffset address.toNat }
  | eraseBlock (address : BitVec 32) (valid : policy ≠ .reserved) (init : s.pageCount ≠ 0)
      (aligned : address.toNat % 4096 = 0) (bound : address.toNat + 4096 ≤ s.pageCount.toNat * 512) :
      Admitted s policy (.eraseBlock policy address) s.params.tBlker
        [[[s.params.opBlker], (encAddrOfOffset address.toNat).toList]]
        { s with
          status := .busyErase, cmd := { s.cmd with c0 := s.params.opBlker }, adr := encAddrOfOffset address.toNat }
  | eraseSector (address : BitVec 32) (valid : policy ≠ .reserved) (init : s.pageCount ≠ 0)
      (aligned : address.toNat % 131072 = 0) (bound : address.toNat + 131072 ≤ s.pageCount.toNat * 512) :
      Admitted s policy (.eraseSector policy address) s.params.tSecer
        [[[s.params.opSecer], (encAddrOfOffset address.toNat).toList]]
        { s with
          status := .busyErase, cmd := { s.cmd with c0 := s.params.opSecer }, adr := encAddrOfOffset address.toNat }
  | eraseChip (valid : policy ≠ .reserved) (init : s.pageCount ≠ 0) :
      Admitted s policy (.eraseChip policy 0) s.params.tChiper [[s.params.seqChiper.toList]]
        { s with
          status := .busyErase,
          cmd := ⟨s.params.seqChiper.b0, s.params.seqChiper.b1, s.params.seqChiper.b2, s.params.seqChiper.b3⟩ }

/-- `StartsPoll s i f budget frames latched`: after `frames`, the request `i` runs `BusyPoll(budget)` (R162), and `f` is the
wait it stands in between two passes (log 1): a completion poll (R165), or INIT's ready wait, which has no frame before it
(R186 steps 1 and 2). -/
inductive StartsPoll (s : State) : Instr → Flight → Tick → List (List (List Byte)) → State → Prop where
  | completion {i : Instr} {budget : Tick} {frames : List (List (List Byte))} {latched : State}
      (admitted : Admitted s .busyPoll i budget frames latched) :
      StartsPoll s i (.poll budget) budget frames latched
  | initReady (wired : s.busOk = true) (selected : s.csIdIn ≠ 0) :
      StartsPoll s .init .initReady s.params.tResp []
        { s with busBound := true, csId := if s.busBound then s.csId else s.csIdIn }

/-- The step of `s` accepts a presented request that decodes to `i` (R185). -/
def AcceptsRequest (s : State) (i : Instr) : Prop :=
  s.resetIn = false ∧ s.seq = .idle ∧ ∃ w : BitVec 64, s.port = some (.request w) ∧ decodeRequest w = i

/-- The step of `s` goes on with an INIT, in its ready wait or in its page-size delay (R186 steps 2 and 5; log 1). -/
def InitGoesOn (s : State) : Prop :=
  s.resetIn = false ∧ s.seq ≠ .idle ∧ (s.flight = some .initReady ∨ ∃ part : PartPages, s.flight = some (.initConfig part))

/-- `InitPass s run start`: `run` is INIT's outcome from a pass of its ready wait on (R186 step 2), and `start` the state that
pass begins in. It is the first pass, in INIT's own step, after step 1 has bound the bus and the wait has read its first tick;
or a later pass, a step of its own (log 1). -/
inductive InitPass (s : State) : Host.Outcome State Fault Refusal → State → Prop where
  | first (wired : s.busOk = true) (selected : s.csIdIn ≠ 0) (t0 : Tick) (ticks : List Tick)
      (read : s.ticks = t0 :: ticks) :
      InitPass s (exec .init s)
        { s with
          busBound := true, csId := if s.busBound then s.csId else s.csIdIn, t0 := t0, trace := s.trace ++ [.tick t0],
          ticks := ticks, draws := s.draws + 1 }
  | later (released : s.resetIn = false) (busy : s.seq ≠ .idle) (waiting : s.flight = some .initReady) :
      InitPass s (step s) s

end Sys2Proof.Machine
end

