-- ==== Sys2Proof/Certificates/Slice0/Obligations.lean ====
section
/-! DEFINITION. The statements for the provers. A statement about an instruction gives its whole next state as an
equation: the fields its rule writes, every other field of `s` unchanged (so every byte of FB and HostBuf it does not
name reads as before). The answers of the environment are hypotheses on the head of `s.bus` and `s.ticks`. -/

open Sys2Proof
open Sys2Proof.Machine

/-! ### Encodings -/

/-- Decoding the code of a well-formed instruction gives the instruction back, every operand included: a request as R80 to R87
lay out its word, a wire command in the formats of R89. That a wire command is decoded at all, and by the table's opcode
bytes, is the model's choice (log 4): the block never decodes one (R91). That a receive's fill bytes are encoded as zero and
ignored is log 23. -/
def Obligations.DecodeOfEncode : Prop :=
  ∀ i : Instr, WellFormed i → decode (encode i) = .ok i

/-- R87: every request word decodes, and it lies in exactly one row of the opcode table, the row of its decoding. -/
def Obligations.RequestDecodingTotal : Prop :=
  ∀ w : BitVec 64, decode (.request w) = .ok (decodeRequest w) ∧ WellFormed (decodeRequest w) ∧
    (∃ row ∈ requestRows, row.name = (decodeRequest w).mnemonic) ∧
    ∀ row ∈ requestRows, w &&& row.mask = row.value ↔ (decodeRequest w).mnemonic = row.name

/-- R82, R93 (d): reserved bits 52:48 and the fields an operation does not use are ignored. -/
def Obligations.UnusedRequestFieldsIgnored : Prop :=
  ∀ w v : BitVec 64,
    ((∀ i, i < 48 ∨ 53 ≤ i → w.getLsbD i = v.getLsbD i) → decodeRequest w = decodeRequest v) ∧
    (reqOp w = 0 ∨ reqOp w = 4 ∨ 5 ≤ reqOp w → (∀ i, 61 ≤ i → w.getLsbD i = v.getLsbD i) →
      decodeRequest w = decodeRequest v) ∧
    (reqOp w = 1 → (∀ i, i < 48 ∨ 53 ≤ i ∧ i ≤ 57 ∨ 61 ≤ i → w.getLsbD i = v.getLsbD i) →
      decodeRequest w = decodeRequest v) ∧
    (reqOp w = 2 → (∀ i, i < 48 ∨ i = 53 ∨ i = 55 ∨ 61 ≤ i → w.getLsbD i = v.getLsbD i) →
      decodeRequest w = decodeRequest v) ∧
    (reqOp w = 3 → reqGran w < 4 → (∀ i, i < 32 ∨ 56 ≤ i → w.getLsbD i = v.getLsbD i) →
      decodeRequest w = decodeRequest v) ∧
    (reqOp w = 3 → 4 ≤ reqGran w → (∀ i, 58 ≤ i → w.getLsbD i = v.getLsbD i) →
      decodeRequest w = decodeRequest v)

/-- R96: the six worked request words decode to the operations they are written for. -/
def Obligations.WorkedRequestWords : Prop :=
  decode (.request 0x0000000000000000) = .ok .init ∧
  decode (.request 0x22E0000400000600) = .ok (.write .busyPoll true true true 4 0x600) ∧
  decode (.request 0x40A0000400000600) = .ok (.read true true 4 0x600) ∧
  decode (.request 0x6400000000001000) = .ok (.eraseBlock .noWait 0x1000) ∧
  decode (.request 0x6E00000000000000) = .ok (.eraseChip .busyPoll 0) ∧
  decode (.request 0x8000000000000000) = .ok .isBusy

/-- A few frames in the formats of R89 decode to their rows. That a frame is decoded at all, and by these opcode bytes, is the
model's choice (log 4): the block never decodes a wire command (R91), and the bytes are the table's, general knowledge and
not in the source (K1). -/
def Obligations.WorkedWireFrames : Prop :=
  decode (.frame true [0x84, 0, 0, 0, 0xDE, 0xAD, 0xBE, 0xEF, 0xC1, 0x9B]) =
    .ok (.bufwr [0xDE, 0xAD, 0xBE, 0xEF] (some 0xC19B)) ∧
  decode (.frame false [0x83, 0x00, 0x06, 0x00]) = .ok (.progE 0x000600) ∧
  decode (.frame false [0xD2, 0x00, 0x06, 0x00, 0, 0, 0, 0, 0, 0]) = .ok (.pgrd 0x000600 2) ∧
  decode (.frame false [0xC7, 0x94, 0x80, 0x9A]) = .ok .chiper ∧
  decode (.frame false [0xD7, 0]) = .ok .srrd

/-! ### The Command Encoder -/

/-- R111: the three address bytes, most significant first, are `page * 512 + off`, truncated to 24 bits. -/
def Obligations.AddressFieldValue : Prop :=
  ∀ page off : Nat, off < 512 →
    ((encAddr page off).a0 ++ (encAddr page off).a1 ++ (encAddr page off).a2).toNat = (page * 512 + off) % 2 ^ 24

/-- R112: a page-aligned 24-bit offset is sent as its own three bytes, the low nine bits zero; `EncAddr` is injective. -/
def Obligations.AlignedAddressBytes : Prop :=
  (∀ a : BitVec 32, a.toNat % 512 = 0 → a.toNat < 2 ^ 24 →
    (encAddrOfOffset a.toNat).toList = [a.extractLsb' 16 8, a.extractLsb' 8 8, a.extractLsb' 0 8] ∧
    (encAddrOfOffset a.toNat).a2 = 0x00 ∧ (encAddrOfOffset a.toNat).a1.getLsbD 0 = false) ∧
  (∀ page off page' off' : Nat, page < 2 ^ 15 → off < 512 → page' < 2 ^ 15 → off' < 512 →
    encAddr page off = encAddr page' off' → page = page' ∧ off = off')

/-! ### The Checksum Engine -/

/-- R143, R149: the check value and worked values. -/
def Obligations.ChecksumCheckValue : Prop :=
  crc16 [0x31, 0x32, 0x33, 0x34, 0x35, 0x36, 0x37, 0x38, 0x39] = 0x4B37 ∧
  crc16 [] = 0xFFFF ∧ crc16 [0x01] = 0x807E ∧ crc16 [0xDE, 0xAD, 0xBE, 0xEF] = 0xC19B

/-- R147 (a), (b): a bit step is undone by the formula the rule gives, and one byte step is injective in each of its
two arguments. -/
def Obligations.ChecksumStepsInvertible : Prop :=
  (∀ c : BitVec 16, (crcBit c).getLsbD 15 = c.getLsbD 0 ∧
    c = ((crcBit c ^^^ (if (crcBit c).getLsbD 15 then 0xA001 else 0)) <<< 1) |||
      (if (crcBit c).getLsbD 15 then 1 else 0)) ∧
  (∀ (b : Byte) (c d : BitVec 16), crcByte c b = crcByte d b → c = d) ∧
  (∀ (c : BitVec 16) (a b : Byte), crcByte c a = crcByte c b → a = b)

/-- R147 (c): changing exactly one byte always changes the checksum. -/
def Obligations.ChecksumDetectsOneByte : Prop :=
  ∀ (before after : List Byte) (a b : Byte), a ≠ b →
    crc16 (before ++ a :: after) ≠ crc16 (before ++ b :: after)

/-- R147 (d): the checksum is affine over exclusive or. -/
def Obligations.ChecksumAffine : Prop :=
  ∀ a b : List Byte, a.length = b.length →
    crc16 (List.zipWith (fun x y => x ^^^ y) a b) = crc16 a ^^^ crc16 b ^^^ crc16 (List.replicate a.length 0)

/-- R144, R145, R148: a payload followed by the two bytes of its checksum passes CrcCheck, and fails it after a change of
exactly one byte, payload or checksum. -/
def Obligations.OneByteCorruptionFailsCheck : Prop :=
  ∀ payload : List Byte,
    crcCheck (payload ++ crcBytes (crc16 payload)) payload.length = true ∧
    ∀ (k : Nat) (v : Byte) (hk : k < (payload ++ crcBytes (crc16 payload)).length),
      (payload ++ crcBytes (crc16 payload))[k] ≠ v →
      crcCheck ((payload ++ crcBytes (crc16 payload)).set k v) payload.length = false

/-! ### Wire commands -/

/-- R115, R116, R118 to R120: the five addressed commands, with an operand that is aligned to its unit and in bounds, send opcode
and address in one scope, latch them in `cmd` and `adr`, and change nothing else. That each runs by itself, on an initialised
block with its bus bound, and leaves the sequencer at IDLE where R157 leaves GAP, is the model's choice (log 4). -/
def Obligations.AddressedCommandsSend : Prop :=
  ∀ (a : BitVec 24) (s : State) (b0 b1 : List Byte) (rest : List BusAnswer),
    s.pageCount ≠ 0 → s.busBound = true → s.bus = ⟨true, b0⟩ :: ⟨true, b1⟩ :: rest →
    let sent (op : Byte) : State :=
      { s with
        cmd := { s.cmd with c0 := op }, adr := encAddrOfOffset a.toNat, cs := true, seq := .idle,
        trace := s.trace ++ scope [.tx [op], .tx (encAddrOfOffset a.toNat).toList], bus := rest, draws := s.draws + 2 }
    (a.toNat % 512 = 0 → a.toNat + 512 ≤ s.pageCount.toNat * 512 →
      exec (.progE a) s = .next (sent s.params.opProgE) ∧
      exec (.progNe a) s = .next (sent s.params.opProgNe) ∧
      exec (.pger a) s = .next (sent s.params.opPger)) ∧
    (a.toNat % 4096 = 0 → a.toNat + 4096 ≤ s.pageCount.toNat * 512 →
      exec (.blker a) s = .next (sent s.params.opBlker)) ∧
    (a.toNat % 131072 = 0 → a.toNat + 131072 ≤ s.pageCount.toNat * 512 →
      exec (.secer a) s = .next (sent s.params.opSecer))

/-- R114, R144: BUFWR sends opcode, three zero address bytes, the payload, and the checksum high byte first when asked. That
it runs by itself and leaves the sequencer at IDLE is the model's choice (log 4). -/
def Obligations.BufferWriteSends : Prop :=
  ∀ (payload : List Byte) (s : State) (b0 b1 b2 : List Byte) (rest : List BusAnswer),
    s.pageCount ≠ 0 → s.busBound = true → s.bus = ⟨true, b0⟩ :: ⟨true, b1⟩ :: ⟨true, b2⟩ :: rest →
    exec (.bufwr payload none) s = .next
      { s with
        cmd := { s.cmd with c0 := s.params.opBufwr }, adr := ⟨0, 0, 0⟩, cs := true, seq := .idle,
        trace := s.trace ++ [.cs0, .tx [s.params.opBufwr], .tx [0, 0, 0], .tx payload, .cs1],
        bus := rest, draws := s.draws + 3 } ∧
    ∀ (c : BitVec 16) (b3 : List Byte) (more : List BusAnswer), rest = ⟨true, b3⟩ :: more →
      exec (.bufwr payload (some c)) s = .next
        { s with
          cmd := { s.cmd with c0 := s.params.opBufwr }, adr := ⟨0, 0, 0⟩, cs := true, seq := .idle,
          trace := s.trace ++ [.cs0, .tx [s.params.opBufwr], .tx [0, 0, 0], .tx payload,
            .tx [c.extractLsb' 8 8, c.extractLsb' 0 8], .cs1],
          bus := more, draws := s.draws + 4 }

/-- R117, R34, R157: PGRD of an aligned page in bounds sends opcode, address and four zero bytes, receives, and stores the bytes
received from FB[0] on: those bytes of FB read as received, every other byte of FB as before. If a transmit or the receive
fails, no later call is made, the scope is closed and FB stays as it was. That it runs by itself, leaves the sequencer at IDLE,
raises nothing on a failed call and stores whatever the frame grant is, is the model's choice (log 4), and so is that FB keeps
the bytes afterwards (log 7). -/
def Obligations.PageReadStores : Prop :=
  ∀ (a : BitVec 24) (n : Nat) (s : State) (rest : List BusAnswer), s.pageCount ≠ 0 → s.busBound = true → n ≤ 512 →
    a.toNat % 512 = 0 → a.toNat + 512 ≤ s.pageCount.toNat * 512 →
    let sent := [[s.params.opPgrd], (encAddrOfOffset a.toNat).toList, [0, 0, 0, 0]]
    let after (k : Nat) (evs : List Event) (fb : Memory) : State :=
      { s with
        cmd := { s.cmd with c0 := s.params.opPgrd }, adr := encAddrOfOffset a.toNat, cs := true, seq := .idle, fb := fb,
        trace := s.trace ++ scope evs, bus := rest, draws := s.draws + k }
    (∀ b0 b1 b2 bytes : List Byte, n = bytes.length →
      s.bus = ⟨true, b0⟩ :: ⟨true, b1⟩ :: ⟨true, b2⟩ :: ⟨true, bytes⟩ :: rest →
      ∃ fb : Memory, exec (.pgrd a n) s = .next (after 4 (sent.map Event.tx ++ [.rx bytes]) fb) ∧
        ∀ i, Memory.read fb i = if i < n then bytes[i]? else Memory.read s.fb i) ∧
    ∀ (good : List BusAnswer) (c : Call) (b : List Byte), (sent.map Call.tx ++ [.rx n])[good.length]? = some c →
      (∀ x ∈ good, x.ok = true) → s.bus = good ++ ⟨false, b⟩ :: rest →
      exec (.pgrd a n) s = .next
        (after (good.length + 1) ((sent.take good.length).map Event.tx ++ [c.failEvent]) s.fb)

/-- The model's own stop (log 17): PGRD by itself with more bytes to receive than FB has (R34, R50) faults. -/
def Obligations.PageReadPastFrameBufferStops : Prop :=
  ∀ (a : BitVec 24) (n : Nat) (s : State), 512 < n → exec (.pgrd a n) s = .fault (.frameBuffer n)

/-- R121, R124: the fixed sequences, with no address bytes; CHIPER leaves its four bytes in `cmd`. That each runs by itself and
leaves the sequencer at IDLE is the model's choice (log 4), and so is what a page-size sequence of another length than four
leaves in `cmd` (log 9). -/
def Obligations.FixedSequencesSend : Prop :=
  ∀ (s : State) (b0 : List Byte) (rest : List BusAnswer), s.pageCount ≠ 0 → s.busBound = true →
    s.bus = ⟨true, b0⟩ :: rest →
    exec .chiper s = .next
      { s with
        cmd := ⟨s.params.seqChiper.b0, s.params.seqChiper.b1, s.params.seqChiper.b2, s.params.seqChiper.b3⟩,
        cs := true, seq := .idle, trace := s.trace ++ [.cs0, .tx s.params.seqChiper.toList, .cs1],
        bus := rest, draws := s.draws + 1 } ∧
    exec .pscfg s = .next
      { s with
        cmd := ⟨s.params.seqPscfgHead, s.params.seqPscfgTail.getD 0 s.cmd.c1, s.params.seqPscfgTail.getD 1 s.cmd.c2,
          s.params.seqPscfgTail.getD 2 s.cmd.c3⟩,
        cs := true, seq := .idle, trace := s.trace ++ [.cs0, .tx s.params.seqPscfg, .cs1],
        bus := rest, draws := s.draws + 1 }

/-- R122, R160: SRRD stores the byte received in `sr` only when both calls succeeded; when its transmit or its receive fails
`sr` keeps its value. That it runs by itself, leaves the sequencer at IDLE and raises nothing on a failed call is the model's
choice (log 4). -/
def Obligations.StatusReadStores : Prop :=
  ∀ (s : State) (b0 bytes : List Byte) (b : Byte) (rest : List BusAnswer), s.pageCount ≠ 0 → s.busBound = true →
    let after (n : Nat) (evs : List Event) (sr : Byte) : State :=
      { s with
        cmd := { s.cmd with c0 := s.params.opSrrd }, sr := sr, cs := true, seq := .idle,
        trace := s.trace ++ (.cs0 :: evs ++ [.cs1]), bus := rest, draws := s.draws + n }
    (s.bus = ⟨true, b0⟩ :: ⟨true, b :: bytes⟩ :: rest →
      exec .srrd s = .next (after 2 [.tx [s.params.opSrrd], .rx [b]] b)) ∧
    (s.bus = ⟨true, b0⟩ :: ⟨false, bytes⟩ :: rest →
      exec .srrd s = .next (after 2 [.tx [s.params.opSrrd], .rxFail 1] s.sr)) ∧
    (s.bus = ⟨false, b0⟩ :: rest → exec .srrd s = .next (after 1 [.txFail [s.params.opSrrd]] s.sr))

/-- R123, R21: IDRD by itself receives five bytes, which its wire trace shows; it writes its opcode byte and nothing else of
the handle. `identity` keeps its value, because only INIT writes it (InitSucceeds and InitRejectsDevice say what INIT stores).
That IDRD runs by itself, leaves the sequencer at IDLE and raises nothing on a failed call is the model's choice (log 4). -/
def Obligations.IdentityReadReceives : Prop :=
  ∀ (s : State) (b0 bytes : List Byte) (i0 i1 i2 i3 i4 : Byte) (rest : List BusAnswer), s.pageCount ≠ 0 →
    s.busBound = true →
    let after (n : Nat) (evs : List Event) : State :=
      { s with
        cmd := { s.cmd with c0 := s.params.opIdrd }, cs := true, seq := .idle,
        trace := s.trace ++ (.cs0 :: evs ++ [.cs1]), bus := rest, draws := s.draws + n }
    (s.bus = ⟨true, b0⟩ :: ⟨true, [i0, i1, i2, i3, i4]⟩ :: rest →
      exec .idrd s = .next (after 2 [.tx [s.params.opIdrd], .rx [i0, i1, i2, i3, i4]])) ∧
    (s.bus = ⟨true, b0⟩ :: ⟨false, bytes⟩ :: rest →
      exec .idrd s = .next (after 2 [.tx [s.params.opIdrd], .rxFail 5])) ∧
    (s.bus = ⟨false, b0⟩ :: rest → exec .idrd s = .next (after 1 [.txFail [s.params.opIdrd]]))

/-- R89, R156, R122, R117, R21: on an initialised block with its bus bound, and with its address, if it has one, aligned and in
bounds, a wire command is one chip-select scope around transfer events only, whatever the environment answers; it writes no
status, no response, no HostBuf byte, no input, and none of INIT's latches. `sr` changes only to the byte of a receive that
succeeded; an address it latches lies in the array (R90); FB changes only in a PGRD whose every transfer succeeded, and then
only at the bytes received. On any other block (R264, D19), and with any other address (R90, R115 to R120), it touches no bus
and is ErrorArgument with nothing else changed.
That it runs by itself, leaves the sequencer at IDLE, raises nothing on a failed call, and that it is the requests' ErrorArgument
where it must not run, is the model's choice (log 4). -/
def Obligations.WireCommandIsOneScope : Prop :=
  ∀ (i : Instr) (s t : State), isWire i = true → exec i s = .next t →
    (¬WireRuns s i → s.cs = true → t = ended .errorArgument s) ∧
    (WireRuns s i →
      (∃ evs : List Event, (∀ e ∈ evs, e.isTransfer = true) ∧ t.trace = s.trace ++ scope evs) ∧
      t.cs = true ∧ t.seq = .idle ∧ t.status = s.status ∧ t.rspStatus = s.rspStatus ∧ t.rspBusy = s.rspBusy ∧
      t.identity = s.identity ∧ t.pageCount = s.pageCount ∧ t.busBound = s.busBound ∧ t.csId = s.csId ∧ t.crc = s.crc ∧
      t.t0 = s.t0 ∧ t.flight = s.flight ∧ t.params = s.params ∧ t.busOk = s.busOk ∧ t.csIdIn = s.csIdIn ∧
      t.frameGrant = s.frameGrant ∧ t.resetIn = s.resetIn ∧ t.port = s.port ∧ t.ticks = s.ticks ∧
      t.hostBuf = s.hostBuf ∧
      (t.sr = s.sr ∨ i = .srrd ∧ t.trace = s.trace ++ scope [.tx [s.params.opSrrd], .rx [t.sr]]) ∧
      (t.adr = s.adr ∨ (t.adr.a0 ++ t.adr.a1 ++ t.adr.a2).toNat < s.pageCount.toNat * 512) ∧
      (t.fb = s.fb ∨ ∃ (a : BitVec 24) (bytes : List Byte), i = .pgrd a bytes.length ∧
        t.trace = s.trace ++ scope [.tx [s.params.opPgrd], .tx (encAddrOfOffset a.toNat).toList, .tx [0, 0, 0, 0],
          .rx bytes] ∧
        ∀ k, Memory.read t.fb k = if k < bytes.length then bytes[k]? else Memory.read s.fb k))

/-- R156, R157: a frame whose call number `pre.length` is the first to fail makes no later call and still closes its
scope: the trace grows by one event per call made, the last being the failure. -/
def Obligations.FrameStopsAtFirstFailure : Prop :=
  ∀ (pre post : List Call) (c : Call) (s : State) (good rest : List BusAnswer) (b : List Byte),
    s.bus = good ++ ⟨false, b⟩ :: rest → good.length = pre.length → (∀ x ∈ good, x.ok = true) →
    (runFrame (pre ++ c :: post) s).1 = none ∧ (runFrame (pre ++ c :: post) s).2.cs = true ∧
    (runFrame (pre ++ c :: post) s).2.bus = rest ∧
    ∃ evs : List Event, evs.length = pre.length ∧
      (runFrame (pre ++ c :: post) s).2.trace = s.trace ++ (.cs0 :: evs ++ [c.failEvent, .cs1])

/-! ### INIT -/

/-- R186 on a ready device in binary mode: three frames, then Ready; `identity` and `pageCount` are written only while
`pageCount` is 0, `csId` only while the bus is unbound (R187 (e), R267). -/
def Obligations.InitSucceeds : Prop :=
  ∀ (s : State) (b0 b1 b2 m0 m2 : List Byte) (st st' i0 i1 i2 i3 i4 : Byte) (part : PartPages) (t0 : Tick)
    (ticks : List Tick) (rest : List BusAnswer),
    s.busOk = true → s.csIdIn ≠ 0 → s.ticks = t0 :: ticks →
    s.bus = ⟨true, b0⟩ :: ⟨true, st :: m0⟩ :: ⟨true, b1⟩ :: ⟨true, [i0, i1, i2, i3, i4]⟩ :: ⟨true, b2⟩ ::
      ⟨true, st' :: m2⟩ :: rest →
    deviceBusy s.params st = false → i0 = 0x1F → partOf s.params i1 = some part → binaryMode s.params st' = true →
    exec .init s = .next (ended .ready
      { s with
        identity := if s.pageCount = 0 then ⟨i0, i1, i2, i3, i4⟩ else s.identity,
        pageCount := if s.pageCount = 0 then part.pages else s.pageCount,
        busBound := true, csId := if s.busBound then s.csId else s.csIdIn,
        cmd := { s.cmd with c0 := s.params.opSrrd }, sr := st', cs := true, t0 := t0,
        trace := s.trace ++ [.tick t0, .cs0, .tx [s.params.opSrrd], .rx [st], .cs1,
          .cs0, .tx [s.params.opIdrd], .rx [i0, i1, i2, i3, i4], .cs1,
          .cs0, .tx [s.params.opSrrd], .rx [st'], .cs1],
        bus := rest, ticks := ticks, draws := s.draws + 7 })

/-- R186 step 1: an unwired bus or a zero chip-select identifier is ErrorArgument with no bus event. -/
def Obligations.InitRejectsStraps : Prop :=
  ∀ s : State, s.cs = true → s.busOk = false ∨ s.csIdIn = 0 →
    exec .init s = .next (ended .errorArgument s)

/-- R186 steps 3 and 4, R187 (c): a wrong manufacturer byte or an unknown device code is ErrorInitialization; the
identity received is kept (while `pageCount` is 0) and `pageCount` is not written. Stated from the pass of the ready wait that
finds the device ready, the first or a later one; that a later pass is a step of its own is log 1. -/
def Obligations.InitRejectsDevice : Prop :=
  ∀ (s start : State) (run : Host.Outcome State Fault Refusal), InitPass s run start →
    ∀ (b0 b1 m0 : List Byte) (st i0 i1 i2 i3 i4 : Byte) (rest : List BusAnswer),
    s.bus = ⟨true, b0⟩ :: ⟨true, st :: m0⟩ :: ⟨true, b1⟩ :: ⟨true, [i0, i1, i2, i3, i4]⟩ :: rest →
    deviceBusy s.params st = false → i0 ≠ 0x1F ∨ partOf s.params i1 = none →
    run = .next (ended .errorInitialization
      { start with
        identity := if s.pageCount = 0 then ⟨i0, i1, i2, i3, i4⟩ else s.identity,
        cmd := { s.cmd with c0 := s.params.opIdrd }, sr := st, cs := true,
        trace := start.trace ++ scope [.tx [s.params.opSrrd], .rx [st]] ++
          scope [.tx [s.params.opIdrd], .rx [i0, i1, i2, i3, i4]],
        bus := rest, draws := start.draws + 4 })

/-- R186, R265, 90_conflicts.md C4: a failing transfer, transmit or receive, ends INIT in ErrorTimeout in the ready wait and
in the identity read, and in ErrorInitialization in the page-size step: its status read, its PSCFG, its verifying status read.
`pageCount` is not written; `identity` is written (while `pageCount` is 0) only once the identity read has succeeded. Stated
from the pass of the ready wait that finds the device ready, the first or a later one, which log 1 makes a step of its own;
the delay after PSCFG ends here in its first pass (DelayPassOutcomes has the later ones). What a page-size sequence of another
length than four leaves in `cmd` is the model's choice (log 9). -/
def Obligations.InitTransportErrors : Prop :=
  ∀ (s start : State) (run : Host.Outcome State Fault Refusal), InitPass s run start →
    ∀ (x b0 b1 b2 b3 b4 m0 m2 : List Byte) (st st' i0 i1 i2 i3 i4 : Byte) (part : PartPages) (rest : List BusAnswer),
    deviceBusy s.params st = false → i0 = 0x1F → partOf s.params i1 = some part →
    let good : List BusAnswer := [⟨true, b0⟩, ⟨true, st :: m0⟩, ⟨true, b1⟩, ⟨true, [i0, i1, i2, i3, i4]⟩, ⟨true, b2⟩,
      ⟨true, st' :: m2⟩, ⟨true, b3⟩, ⟨true, b4⟩]
    let failsAt (k : Nat) : Prop := s.bus = good.take k ++ ⟨false, x⟩ :: rest
    let polled : List Event := scope [.tx [s.params.opSrrd], .rx [st]]
    let named : List Event := polled ++ scope [.tx [s.params.opIdrd], .rx [i0, i1, i2, i3, i4]]
    let read : List Event := named ++ scope [.tx [s.params.opSrrd], .rx [st']]
    let kept : Identity := if s.pageCount = 0 then ⟨i0, i1, i2, i3, i4⟩ else s.identity
    let one (op : Byte) : CmdReg := { s.cmd with c0 := op }
    let four (c0 : Byte) : CmdReg := ⟨c0, s.params.seqPscfgTail.getD 0 s.cmd.c1, s.params.seqPscfgTail.getD 1 s.cmd.c2,
      s.params.seqPscfgTail.getD 2 s.cmd.c3⟩
    let failed (v : Status) (id : Identity) (cmd : CmdReg) (sr : Byte) (evs : List Event) (t0 : Tick) (ticks : List Tick)
        (n : Nat) : State := ended v
      { start with
        identity := id, cmd := cmd, sr := sr, cs := true, t0 := t0, trace := start.trace ++ evs, bus := rest,
        ticks := ticks, draws := start.draws + n }
    let timeout (cmd : CmdReg) (sr : Byte) (evs : List Event) (n : Nat) : State :=
      failed .errorTimeout s.identity cmd sr evs start.t0 start.ticks n
    let config (cmd : CmdReg) (sr : Byte) (evs : List Event) (n : Nat) : State :=
      failed .errorInitialization kept cmd sr evs start.t0 start.ticks n
    (failsAt 0 → run = .next (timeout (one s.params.opSrrd) s.sr (scope [.txFail [s.params.opSrrd]]) 1)) ∧
    (failsAt 1 → run = .next (timeout (one s.params.opSrrd) s.sr (scope [.tx [s.params.opSrrd], .rxFail 1]) 2)) ∧
    (failsAt 2 → run = .next (timeout (one s.params.opIdrd) st (polled ++ scope [.txFail [s.params.opIdrd]]) 3)) ∧
    (failsAt 3 → run = .next (timeout (one s.params.opIdrd) st (polled ++ scope [.tx [s.params.opIdrd], .rxFail 5]) 4)) ∧
    (failsAt 4 → run = .next (config (one s.params.opSrrd) st (named ++ scope [.txFail [s.params.opSrrd]]) 5)) ∧
    (failsAt 5 → run = .next (config (one s.params.opSrrd) st (named ++ scope [.tx [s.params.opSrrd], .rxFail 1]) 6)) ∧
    (binaryMode s.params st' = false →
      (failsAt 6 → run = .next
        (config (four s.params.seqPscfgHead) st' (read ++ scope [.txFail s.params.seqPscfg]) 7)) ∧
      ∀ (t1 t2 : Tick) (ticks : List Tick), start.ticks = t1 :: t2 :: ticks → s.params.tConfig ≤ t2 - t1 →
        let waited : List Event := read ++ scope [.tx s.params.seqPscfg] ++ [.tick t1, .tick t2]
        (failsAt 7 → run = .next (failed .errorInitialization kept (four s.params.opSrrd) st'
          (waited ++ scope [.txFail [s.params.opSrrd]]) t1 ticks 10)) ∧
        (failsAt 8 → run = .next (failed .errorInitialization kept (four s.params.opSrrd) st'
          (waited ++ scope [.tx [s.params.opSrrd], .rxFail 1]) t1 ticks 11)))

/-- R186 step 5: in the alternate mode INIT sends PSCFG and waits T_CONFIG. A first reading that has not passed T_CONFIG goes
round again, with nothing decided yet; that the wait then stands in `flight` is log 1. One that has passed it goes on to read
the status again: Ready when the mode is then binary, ErrorInitialization with `pageCount` unwritten when it is not. Stated
from the pass of the ready wait that finds the device ready, the first or a later one (log 1). What a page-size sequence of
another length than four leaves in `cmd` is the model's choice (log 9). -/
def Obligations.InitReconfigures : Prop :=
  ∀ (s start : State) (run : Host.Outcome State Fault Refusal), InitPass s run start →
    ∀ (b0 b1 b2 b3 b4 m0 m2 m4 : List Byte) (st st' st'' i0 i1 i2 i3 i4 : Byte) (part : PartPages) (t1 t2 : Tick)
      (ticks : List Tick) (rest more : List BusAnswer),
    start.ticks = t1 :: t2 :: ticks →
    s.bus = ⟨true, b0⟩ :: ⟨true, st :: m0⟩ :: ⟨true, b1⟩ :: ⟨true, [i0, i1, i2, i3, i4]⟩ :: ⟨true, b2⟩ ::
      ⟨true, st' :: m2⟩ :: ⟨true, b3⟩ :: rest →
    deviceBusy s.params st = false → i0 = 0x1F → partOf s.params i1 = some part → binaryMode s.params st' = false →
    let waited : State :=
      { start with
        identity := if s.pageCount = 0 then ⟨i0, i1, i2, i3, i4⟩ else s.identity,
        cmd := ⟨s.params.seqPscfgHead, s.params.seqPscfgTail.getD 0 s.cmd.c1, s.params.seqPscfgTail.getD 1 s.cmd.c2,
          s.params.seqPscfgTail.getD 2 s.cmd.c3⟩,
        sr := st', cs := true, seq := .wait, t0 := t1,
        trace := start.trace ++ scope [.tx [s.params.opSrrd], .rx [st]] ++
          scope [.tx [s.params.opIdrd], .rx [i0, i1, i2, i3, i4]] ++ scope [.tx [s.params.opSrrd], .rx [st']] ++
          scope [.tx s.params.seqPscfg] ++ [.tick t1, .tick t2],
        bus := rest, ticks := ticks, draws := start.draws + 9 }
    let verified : State :=
      { waited with
        cmd := { waited.cmd with c0 := s.params.opSrrd }, sr := st'',
        trace := waited.trace ++ scope [.tx [s.params.opSrrd], .rx [st'']], bus := more,
        draws := start.draws + 11 }
    (t2 - t1 < s.params.tConfig → run = .next { waited with flight := some (.initConfig part) }) ∧
    (s.params.tConfig ≤ t2 - t1 → rest = ⟨true, b4⟩ :: ⟨true, st'' :: m4⟩ :: more →
      (binaryMode s.params st'' = true → run = .next (ended .ready
        { verified with pageCount := if s.pageCount = 0 then part.pages else s.pageCount })) ∧
      (binaryMode s.params st'' = false → run = .next (ended .errorInitialization verified)))

/-! ### WRITE -/

/-- R190 with policy NoWait: two frames, then Ready. The checksum, when asked, is computed over the payload into `crc` and
sent after it. -/
def Obligations.WriteSucceeds : Prop :=
  ∀ (s : State) (crc ebw : Bool) (length : BitVec 16) (address : BitVec 32) (good rest : List BusAnswer),
    length ≠ 0 → length.toNat + (if crc then 2 else 0) ≤ 512 → address.toNat % 512 = 0 →
    address.toNat < s.pageCount.toNat * 512 →
    s.bus = good ++ rest → good.length = (if crc then 6 else 5) → (∀ x ∈ good, x.ok = true) →
    let payload := hostBytes s length.toNat
    let op := if ebw then s.params.opProgE else s.params.opProgNe
    exec (.write .noWait crc ebw true length address) s = .next (ended .ready
      { s with
        cmd := { s.cmd with c0 := op }, adr := encAddrOfOffset address.toNat, cs := true,
        crc := if crc then crc16 payload else s.crc,
        trace := s.trace ++ [.cs0, .tx [s.params.opBufwr], .tx [0, 0, 0], .tx payload] ++
          (if crc then [.tx (crcBytes (crc16 payload))] else []) ++
          [.cs1, .cs0, .tx [op], .tx (encAddrOfOffset address.toNat).toList, .cs1],
        bus := rest, draws := s.draws + good.length })

/-- R188, R189, R208: a WRITE that fails a guard is ErrorArgument with no bus event; nothing else changes. -/
def Obligations.WriteRejected : Prop :=
  ∀ (s : State) (policy : Policy) (crc ebw buf : Bool) (length : BitVec 16) (address : BitVec 32), s.cs = true →
    s.pageCount = 0 ∨ length = 0 ∨ buf = false ∨ 512 < length.toNat + (if crc then 2 else 0) ∨
      address.toNat % 512 ≠ 0 ∨ s.pageCount.toNat * 512 ≤ address.toNat ∨ policy = .reserved →
    exec (.write policy crc ebw buf length address) s = .next (ended .errorArgument s)

/-- R157, R190, R195, R198, R202, R191 (a), R204 (d): a WRITE, an ERASE or a READ whose guards pass and whose transfer number
`good.length` is the first to fail ends in ErrorTimeout. No later call and no later frame is made, the open scope is closed,
and HostBuf, FB and `pageCount` are unchanged. -/
def Obligations.DataTransportErrors : Prop :=
  (∀ (s latched : State) (policy : Policy) (i : Instr) (time : Tick) (before after : List (List (List Byte)))
    (pre post : List (List Byte)) (c b : List Byte) (good rest : List BusAnswer),
    Admitted s policy i time (before ++ (pre ++ c :: post) :: after) latched → s.bus = good ++ ⟨false, b⟩ :: rest →
    good.length = before.flatten.length + pre.length → (∀ x ∈ good, x.ok = true) →
    exec i s = .next (ended .errorTimeout
      { latched with
        cmd := if after.isEmpty then latched.cmd else { s.cmd with c0 := s.params.opBufwr },
        adr := if after.isEmpty then latched.adr else ⟨0, 0, 0⟩, cs := true,
        trace := s.trace ++ scopesOf before ++ (.cs0 :: pre.map Event.tx ++ [.txFail c, .cs1]), bus := rest,
        draws := s.draws + good.length + 1 })) ∧
  ∀ (s : State) (crc : Bool) (length : BitVec 16) (address : BitVec 32) (c : Call) (b : List Byte)
    (good rest : List BusAnswer),
    length ≠ 0 → length.toNat + (if crc then 2 else 0) ≤ 512 → address.toNat % 512 = 0 →
    address.toNat < s.pageCount.toNat * 512 → s.frameGrant = true →
    let sent := [[s.params.opPgrd], (encAddrOfOffset address.toNat).toList, [0, 0, 0, 0]]
    (sent.map Call.tx ++ [.rx (length.toNat + (if crc then 2 else 0))])[good.length]? = some c →
    s.bus = good ++ ⟨false, b⟩ :: rest → (∀ x ∈ good, x.ok = true) →
    exec (.read crc true length address) s = .next (ended .errorTimeout
      { s with
        cmd := { s.cmd with c0 := s.params.opPgrd }, adr := encAddrOfOffset address.toNat, cs := true,
        trace := s.trace ++ (.cs0 :: (sent.take good.length).map Event.tx ++ [c.failEvent, .cs1]), bus := rest,
        draws := s.draws + good.length + 1 })

/-! ### READ -/

/-- R195 without verification: one frame, then the payload bytes reach HostBuf, and Ready. That FB still holds the received
bytes afterwards is the model's choice (log 7; P2 step 3 of 95_test_vectors.md shows it, R196 (f) leaves it open). -/
def Obligations.ReadSucceeds : Prop :=
  ∀ (s : State) (length : BitVec 16) (address : BitVec 32) (b0 b1 b2 bytes : List Byte) (rest : List BusAnswer),
    length ≠ 0 → length.toNat ≤ 512 → address.toNat % 512 = 0 → address.toNat < s.pageCount.toNat * 512 →
    s.frameGrant = true → bytes.length = length.toNat →
    s.bus = ⟨true, b0⟩ :: ⟨true, b1⟩ :: ⟨true, b2⟩ :: ⟨true, bytes⟩ :: rest →
    ∃ fb host : Memory,
      exec (.read false true length address) s = .next (ended .ready
        { s with
          cmd := { s.cmd with c0 := s.params.opPgrd }, adr := encAddrOfOffset address.toNat, cs := true, fb := fb,
          hostBuf := host,
          trace := s.trace ++ [.cs0, .tx [s.params.opPgrd], .tx (encAddrOfOffset address.toNat).toList,
            .tx [0, 0, 0, 0], .rx bytes, .cs1],
          bus := rest, draws := s.draws + 4 }) ∧
      (∀ i, Memory.read host i = if i < length.toNat then bytes[i]? else Memory.read s.hostBuf i) ∧
      (∀ i, Memory.read fb i = if i < length.toNat then bytes[i]? else Memory.read s.fb i)

/-- R195 with verification: with the trailing bytes equal to the payload's checksum, Ready and the payload alone reaches
HostBuf (R193); otherwise ErrorChecksum and no byte of HostBuf changes. The trace is the same (R196 (a)). What FB holds
afterwards is the model's choice (log 7). -/
def Obligations.ReadVerifies : Prop :=
  ∀ (s : State) (length : BitVec 16) (address : BitVec 32) (b0 b1 b2 payload : List Byte) (hi lo : Byte)
    (rest : List BusAnswer),
    length ≠ 0 → length.toNat + 2 ≤ 512 → address.toNat % 512 = 0 → address.toNat < s.pageCount.toNat * 512 →
    s.frameGrant = true → payload.length = length.toNat →
    s.bus = ⟨true, b0⟩ :: ⟨true, b1⟩ :: ⟨true, b2⟩ :: ⟨true, payload ++ [hi, lo]⟩ :: rest →
    ∃ fb host : Memory,
      let after : State :=
        { s with
          cmd := { s.cmd with c0 := s.params.opPgrd }, adr := encAddrOfOffset address.toNat, cs := true, fb := fb,
          crc := crc16 payload,
          trace := s.trace ++ [.cs0, .tx [s.params.opPgrd], .tx (encAddrOfOffset address.toNat).toList,
            .tx [0, 0, 0, 0], .rx (payload ++ [hi, lo]), .cs1],
          bus := rest, draws := s.draws + 4 }
      (crc16 payload = hi ++ lo →
        exec (.read true true length address) s = .next (ended .ready { after with hostBuf := host })) ∧
      (crc16 payload ≠ hi ++ lo → exec (.read true true length address) s = .next (ended .errorChecksum after)) ∧
      (∀ i, Memory.read host i = if i < length.toNat then payload[i]? else Memory.read s.hostBuf i) ∧
      (∀ i, Memory.read fb i = if i < length.toNat + 2 then (payload ++ [hi, lo])[i]? else Memory.read s.fb i)

/-- R188, R189, R192, R194, R235 (b): a READ that fails an argument guard is ErrorArgument, whatever the grant; one that
passes them without a grant is ErrorMemoryAllocation. No bus event; nothing else changes. -/
def Obligations.ReadRejected : Prop :=
  ∀ (s : State) (crc buf : Bool) (length : BitVec 16) (address : BitVec 32), s.cs = true →
    (s.pageCount = 0 ∨ length = 0 ∨ buf = false ∨ 512 < length.toNat + (if crc then 2 else 0) ∨
      address.toNat % 512 ≠ 0 ∨ s.pageCount.toNat * 512 ≤ address.toNat →
      exec (.read crc buf length address) s = .next (ended .errorArgument s)) ∧
    (length ≠ 0 → buf = true → length.toNat + (if crc then 2 else 0) ≤ 512 → address.toNat % 512 = 0 →
      address.toNat < s.pageCount.toNat * 512 → s.frameGrant = false →
      exec (.read crc buf length address) s = .next (ended .errorMemoryAllocation s))

/-- R30, R195, R196 (b): READ writes HostBuf only when it ends in Ready, then exactly at the first `length` bytes, with
FB's bytes (property 4 of 95_test_vectors.md section 5). -/
def Obligations.ReadWritesHostOnlyOnReady : Prop :=
  ∀ (s t : State) (crc buf : Bool) (length : BitVec 16) (address : BitVec 32),
    exec (.read crc buf length address) s = .next t →
    (t.status ≠ .ready → t.hostBuf = s.hostBuf) ∧
    (t.status = .ready → (∀ i, i < length.toNat → Memory.read t.hostBuf i = Memory.read t.fb i ∧
        (Memory.read t.fb i).isSome = true) ∧
      ∀ i, length.toNat ≤ i → Memory.read t.hostBuf i = Memory.read s.hostBuf i)

/-! ### ERASE -/

/-- R198 to R201 with policy NoWait: an aligned erase inside the array sends its own opcode with the byte offset's
address, then Ready. -/
def Obligations.AddressedErasesSucceed : Prop :=
  ∀ (s : State) (address : BitVec 32) (b0 b1 : List Byte) (rest : List BusAnswer),
    s.bus = ⟨true, b0⟩ :: ⟨true, b1⟩ :: rest → s.pageCount ≠ 0 →
    let erased (op : Byte) : State := ended .ready
      { s with
        cmd := { s.cmd with c0 := op }, adr := encAddrOfOffset address.toNat, cs := true,
        trace := s.trace ++ [.cs0, .tx [op], .tx (encAddrOfOffset address.toNat).toList, .cs1],
        bus := rest, draws := s.draws + 2 }
    (address.toNat % 512 = 0 → address.toNat + 512 ≤ s.pageCount.toNat * 512 →
      exec (.erasePage .noWait address) s = .next (erased s.params.opPger)) ∧
    (address.toNat % 4096 = 0 → address.toNat + 4096 ≤ s.pageCount.toNat * 512 →
      exec (.eraseBlock .noWait address) s = .next (erased s.params.opBlker)) ∧
    (address.toNat % 131072 = 0 → address.toNat + 131072 ≤ s.pageCount.toNat * 512 →
      exec (.eraseSector .noWait address) s = .next (erased s.params.opSecer))

/-- R202 with policy NoWait: ERASE.CHIP at address 0 sends the fixed sequence and no address. -/
def Obligations.ChipEraseSucceeds : Prop :=
  ∀ (s : State) (b0 : List Byte) (rest : List BusAnswer), s.bus = ⟨true, b0⟩ :: rest → s.pageCount ≠ 0 →
    exec (.eraseChip .noWait 0) s = .next (ended .ready
      { s with
        cmd := ⟨s.params.seqChiper.b0, s.params.seqChiper.b1, s.params.seqChiper.b2, s.params.seqChiper.b3⟩,
        cs := true, trace := s.trace ++ [.cs0, .tx s.params.seqChiper.toList, .cs1],
        bus := rest, draws := s.draws + 1 })

/-- R54, R55, R188, R202, R208: an ERASE that fails a guard is ErrorArgument with no bus event; nothing else changes. -/
def Obligations.EraseRejected : Prop :=
  ∀ (s : State) (policy : Policy) (address : BitVec 32), s.cs = true →
    (s.pageCount = 0 ∨ policy = .reserved ∨ address.toNat % 512 ≠ 0 ∨
      s.pageCount.toNat * 512 < address.toNat + 512 →
      exec (.erasePage policy address) s = .next (ended .errorArgument s)) ∧
    (s.pageCount = 0 ∨ policy = .reserved ∨ address.toNat % 4096 ≠ 0 ∨
      s.pageCount.toNat * 512 < address.toNat + 4096 →
      exec (.eraseBlock policy address) s = .next (ended .errorArgument s)) ∧
    (s.pageCount = 0 ∨ policy = .reserved ∨ address.toNat % 131072 ≠ 0 ∨
      s.pageCount.toNat * 512 < address.toNat + 131072 →
      exec (.eraseSector policy address) s = .next (ended .errorArgument s)) ∧
    (s.pageCount = 0 ∨ policy = .reserved ∨ address ≠ 0 →
      exec (.eraseChip policy address) s = .next (ended .errorArgument s))

/-- R203: op 3 with a selector of 4 to 7 is ErrorInstruction, initialised or not, with no bus event; nothing else
changes. -/
def Obligations.UnrecognisedEraseRejected : Prop :=
  (∀ w : BitVec 64, reqOp w = 3 → 4 ≤ (reqGran w).toNat → decodeRequest w = .eraseUnrecognised (reqGran w)) ∧
  ∀ (s : State) (g : BitVec 3), s.cs = true → exec (.eraseUnrecognised g) s = .next (ended .errorInstruction s)

/-- R207: op 5, 6 and 7 are reserved requests: ErrorArgument with no bus event; nothing else changes. -/
def Obligations.ReservedRequestsRejected : Prop :=
  (∀ w : BitVec 64, reqOp w = 5 → decodeRequest w = .reserved5) ∧
  (∀ w : BitVec 64, reqOp w = 6 → decodeRequest w = .reserved67 false) ∧
  (∀ w : BitVec 64, reqOp w = 7 → decodeRequest w = .reserved67 true) ∧
  ∀ (s : State) (low : Bool), s.cs = true →
    exec .reserved5 s = .next (ended .errorArgument s) ∧ exec (.reserved67 low) s = .next (ended .errorArgument s)

/-! ### ISBUSY -/

/-- R205, R206: unbound, busy with no bus event and nothing written but the response; bound, one status frame: the device's
busy flag, or busy when a transfer fails, with `sr` refreshed only on success and `status` never written. -/
def Obligations.IsBusyAnswers : Prop :=
  ∀ s : State,
    (s.busBound = false → exec .isBusy s = .next { s with rspStatus := s.status, rspBusy := true }) ∧
    (s.busBound = true → ∀ (b0 b : List Byte) (st : Byte) (rest : List BusAnswer),
      let after (bus : List BusAnswer) (n : Nat) (evs : List Event) (sr : Byte) (busy : Bool) : State :=
        { s with
          cmd := { s.cmd with c0 := s.params.opSrrd }, sr := sr, cs := true, seq := .idle, rspStatus := s.status,
          rspBusy := busy, trace := s.trace ++ (.cs0 :: evs ++ [.cs1]), bus := bus, draws := s.draws + n }
      (s.bus = ⟨true, b0⟩ :: ⟨true, st :: b⟩ :: rest →
        exec .isBusy s = .next (after rest 2 [.tx [s.params.opSrrd], .rx [st]] st (deviceBusy s.params st))) ∧
      (s.bus = ⟨true, b0⟩ :: ⟨false, b⟩ :: rest →
        exec .isBusy s = .next (after rest 2 [.tx [s.params.opSrrd], .rxFail 1] s.sr true)) ∧
      (s.bus = ⟨false, b⟩ :: rest →
        exec .isBusy s = .next (after rest 1 [.txFail [s.params.opSrrd]] s.sr true)))

/-- R57, R205: whatever the environment answers, ISBUSY leaves the handle alone but for the status snapshot `sr`, the
scratch byte and the response. -/
def Obligations.IsBusyLeavesHandle : Prop :=
  ∀ s t : State, exec .isBusy s = .next t →
    t.status = s.status ∧ t.identity = s.identity ∧ t.pageCount = s.pageCount ∧ t.busBound = s.busBound ∧
    t.csId = s.csId ∧ t.adr = s.adr ∧ t.crc = s.crc ∧ t.t0 = s.t0 ∧ t.fb = s.fb ∧ t.hostBuf = s.hostBuf ∧
    t.flight = s.flight ∧ t.ticks = s.ticks ∧ t.rspStatus = s.status ∧ (s.busBound = false → t.sr = s.sr)

/-! ### Completion policies and waits -/

/-- R162, R165, R166, R186 step 2: the first pass of a poll, of a WRITE or an ERASE with policy BusyPoll after its last frame,
with its own time constant as the budget, and of INIT's ready wait, with T_RESP: a device that is not busy ends a completion
poll in Ready; a busy one goes round again while the budget is not exceeded and is ErrorTimeout beyond it; a failing receive or
transmit is ErrorTimeout. That the wait then stands in `flight` is log 1, that the phase stays GAP is log 8. -/
def Obligations.PollFirstPass : Prop :=
  ∀ (s latched : State) (i : Instr) (f : Flight) (budget : Tick) (frames : List (List (List Byte))),
    StartsPoll s i f budget frames latched →
    ∀ (good rest : List BusAnswer) (b0 b : List Byte) (st : Byte) (t0 now : Tick) (ticks : List Tick),
      good.length = frames.flatten.length → (∀ x ∈ good, x.ok = true) → s.ticks = t0 :: now :: ticks →
      let read (n : Nat) (evs : List Event) (sr : Byte) : State :=
        { latched with
          cmd := { latched.cmd with c0 := s.params.opSrrd }, sr := sr, cs := true, seq := .gap, t0 := t0,
          trace := s.trace ++ scopesOf frames ++ (.tick t0 :: .cs0 :: evs ++ [.cs1]), bus := rest, ticks := now :: ticks,
          draws := s.draws + good.length + 1 + n }
      let ticked (r : State) : State :=
        { r with trace := r.trace ++ [.tick now], ticks := ticks, draws := r.draws + 1 }
      let seen := read 2 [.tx [s.params.opSrrd], .rx [st]] st
      (s.bus = good ++ ⟨true, b0⟩ :: ⟨true, st :: b⟩ :: rest →
        (deviceBusy s.params st = false → i ≠ .init → exec i s = .next (ended .ready seen)) ∧
        (deviceBusy s.params st = true → now - t0 ≤ budget → exec i s = .next { ticked seen with flight := some f }) ∧
        (deviceBusy s.params st = true → budget < now - t0 → exec i s = .next (ended .errorTimeout (ticked seen)))) ∧
      (s.bus = good ++ ⟨true, b0⟩ :: ⟨false, b⟩ :: rest →
        exec i s = .next (ended .errorTimeout (read 2 [.tx [s.params.opSrrd], .rxFail 1] s.sr))) ∧
      (s.bus = good ++ ⟨false, b⟩ :: rest →
        exec i s = .next (ended .errorTimeout (read 1 [.txFail [s.params.opSrrd]] s.sr)))

/-- R164, R165, R166: with policy FixedDelay, a WRITE or an ERASE goes on, after its last frame, to wait its own time constant,
with no status read: a first reading that has passed it ends in Ready, an earlier one goes round again. That the wait then
stands in `flight` is log 1. -/
def Obligations.DelayCompletionStarts : Prop :=
  ∀ (s latched : State) (i : Instr) (delay : Tick) (frames : List (List (List Byte))),
    Admitted s .fixedDelay i delay frames latched →
    ∀ (good rest : List BusAnswer) (t0 now : Tick) (ticks : List Tick),
      good.length = frames.flatten.length → (∀ x ∈ good, x.ok = true) → s.bus = good ++ rest →
      s.ticks = t0 :: now :: ticks →
      let waited : State :=
        { latched with
          cs := true, seq := .wait, t0 := t0, trace := s.trace ++ scopesOf frames ++ [.tick t0, .tick now], bus := rest,
          ticks := ticks, draws := s.draws + good.length + 2 }
      (delay ≤ now - t0 → exec i s = .next (ended .ready waited)) ∧
      (now - t0 < delay → exec i s = .next { waited with flight := some (.delay delay) })

/-- R162, R165, R186 step 2: a later pass of a completion poll or of INIT's ready wait (whose budget is T_RESP): busy inside
the budget goes round again, busy beyond it is ErrorTimeout, and so is a failing receive or transmit. Not busy ends a
completion poll in Ready, and lets INIT go on: here to Ready, on a known device in binary mode (a wrong device, a failing
transfer and the alternate mode after a later pass are in InitRejectsDevice, InitTransportErrors and InitReconfigures). That
one pass is one step, from the wait held in `flight`, is log 1; that the phase between two passes is GAP, where R24 calls it
WAIT, is log 8. -/
def Obligations.PollPassOutcomes : Prop :=
  ∀ (s : State) (f : Flight) (budget : Tick), s.resetIn = false → s.seq ≠ .idle → s.flight = some f →
    f = .poll budget ∨ f = .initReady ∧ budget = s.params.tResp →
    ∀ (b0 b : List Byte) (st : Byte) (rest : List BusAnswer) (now : Tick) (ticks : List Tick), s.ticks = now :: ticks →
      let read (bus : List BusAnswer) (n : Nat) (evs : List Event) (sr : Byte) : State :=
        { s with
          cmd := { s.cmd with c0 := s.params.opSrrd }, sr := sr, cs := true, seq := .gap,
          trace := s.trace ++ (.cs0 :: evs ++ [.cs1]), bus := bus, draws := s.draws + n }
      let ticked (r : State) : State :=
        { r with trace := r.trace ++ [.tick now], ticks := ticks, draws := r.draws + 1 }
      let seen := read rest 2 [.tx [s.params.opSrrd], .rx [st]] st
      (s.bus = ⟨true, b0⟩ :: ⟨true, st :: b⟩ :: rest → deviceBusy s.params st = false →
        (f = .poll budget → step s = .next (ended .ready seen)) ∧
        ∀ (b1 b2 m2 : List Byte) (i0 i1 i2 i3 i4 st' : Byte) (part : PartPages) (more : List BusAnswer),
          f = .initReady →
          rest = ⟨true, b1⟩ :: ⟨true, [i0, i1, i2, i3, i4]⟩ :: ⟨true, b2⟩ :: ⟨true, st' :: m2⟩ :: more → i0 = 0x1F →
          partOf s.params i1 = some part → binaryMode s.params st' = true →
          step s = .next (ended .ready
            { read more 6 [.tx [s.params.opSrrd], .rx [st], .cs1,
                .cs0, .tx [s.params.opIdrd], .rx [i0, i1, i2, i3, i4], .cs1,
                .cs0, .tx [s.params.opSrrd], .rx [st']] st' with
              identity := if s.pageCount = 0 then ⟨i0, i1, i2, i3, i4⟩ else s.identity,
              pageCount := if s.pageCount = 0 then part.pages else s.pageCount })) ∧
      (s.bus = ⟨true, b0⟩ :: ⟨true, st :: b⟩ :: rest → deviceBusy s.params st = true → now - s.t0 ≤ budget →
        step s = .next (ticked seen)) ∧
      (s.bus = ⟨true, b0⟩ :: ⟨true, st :: b⟩ :: rest → deviceBusy s.params st = true → budget < now - s.t0 →
        step s = .next (ended .errorTimeout (ticked seen))) ∧
      (s.bus = ⟨true, b0⟩ :: ⟨false, b⟩ :: rest →
        step s = .next (ended .errorTimeout (read rest 2 [.tx [s.params.opSrrd], .rxFail 1] s.sr))) ∧
      (s.bus = ⟨false, b⟩ :: rest →
        step s = .next (ended .errorTimeout (read rest 1 [.txFail [s.params.opSrrd]] s.sr)))

/-- R164, R186 step 5: a later pass of a completion delay, and of INIT's T_CONFIG delay, makes no bus event while the delay has
not run out: the same wait goes on. Once it has run out, a completion ends in Ready, and INIT reads the status again: Ready
with `pageCount` written when the mode is binary, ErrorInitialization with `pageCount` unwritten when it is not or when the
read fails. That one pass is one step, from the wait held in `flight`, is log 1. -/
def Obligations.DelayPassOutcomes : Prop :=
  ∀ (s : State) (now : Tick) (ticks : List Tick), s.resetIn = false → s.seq ≠ .idle → s.ticks = now :: ticks →
    let ticked : State := { s with trace := s.trace ++ [.tick now], ticks := ticks, draws := s.draws + 1 }
    (∀ delay, s.flight = some (.delay delay) →
      (delay ≤ now - s.t0 → step s = .next (ended .ready ticked)) ∧ (now - s.t0 < delay → step s = .next ticked)) ∧
    ∀ part, s.flight = some (.initConfig part) →
      (now - s.t0 < s.params.tConfig → step s = .next ticked) ∧
      (s.params.tConfig ≤ now - s.t0 → ∀ (b0 b : List Byte) (st : Byte) (rest : List BusAnswer),
        let read (n : Nat) (evs : List Event) (sr : Byte) : State :=
          { ticked with
            cmd := { s.cmd with c0 := s.params.opSrrd }, sr := sr, cs := true,
            trace := s.trace ++ (.tick now :: .cs0 :: evs ++ [.cs1]), bus := rest, draws := s.draws + 1 + n }
        let seen := read 2 [.tx [s.params.opSrrd], .rx [st]] st
        (s.bus = ⟨true, b0⟩ :: ⟨true, st :: b⟩ :: rest →
          (binaryMode s.params st = true → step s = .next (ended .ready
            { seen with pageCount := if s.pageCount = 0 then part.pages else s.pageCount })) ∧
          (binaryMode s.params st = false → step s = .next (ended .errorInitialization seen))) ∧
        (s.bus = ⟨true, b0⟩ :: ⟨false, b⟩ :: rest →
          step s = .next (ended .errorInitialization (read 2 [.tx [s.params.opSrrd], .rxFail 1] s.sr))) ∧
        (s.bus = ⟨false, b⟩ :: rest →
          step s = .next (ended .errorInitialization (read 1 [.txFail [s.params.opSrrd]] s.sr))))

/-- R162 corner case: from the request that starts a poll (a WRITE or an ERASE with policy BusyPoll, or INIT), a device that
stays busy, under a tick that steps by one per reading, gets exactly `budget + 1` status reads, the first of them in the
request's own step, then ErrorTimeout. (A budget of 2^32 - 1 can never be exceeded and is left out.) That each later pass is a
step, so that the wait takes `budget` steps more, is log 1. -/
def Obligations.BusyPollExhaustsBudget : Prop :=
  ∀ (s latched : State) (i : Instr) (f : Flight) (budget t0 : Tick) (frames : List (List (List Byte))) (x : List Byte)
    (st : Byte) (good rest : List BusAnswer) (later : List Tick),
    StartsPoll s i f budget frames latched → budget.toNat + 1 < 2 ^ 32 → s.resetIn = false →
    deviceBusy s.params st = true → good.length = frames.flatten.length → (∀ y ∈ good, y.ok = true) →
    s.bus = good ++ (List.replicate (budget.toNat + 1) [(⟨true, x⟩ : BusAnswer), ⟨true, [st]⟩]).flatten ++ rest →
    s.ticks = t0 :: (List.range (budget.toNat + 1)).map (fun k => t0 + 1 + BitVec.ofNat 32 k) ++ later →
    ∃ u : State, exec i s = .next u ∧ (budget ≠ 0 → u.flight = some f) ∧
      Sys2Proof.core.run budget.toNat u = .next (ended .errorTimeout
        { latched with
          cmd := { latched.cmd with c0 := s.params.opSrrd }, sr := st, cs := true, t0 := t0,
          trace := s.trace ++ scopesOf frames ++ .tick t0 :: (List.range (budget.toNat + 1)).flatMap (fun k =>
            [.cs0, .tx [s.params.opSrrd], .rx [st], .cs1, .tick (t0 + 1 + BitVec.ofNat 32 k)]),
          bus := rest, ticks := later, draws := s.draws + good.length + 1 + 3 * (budget.toNat + 1) })

/-- R164, R168: a completion delay reads one tick per pass and ends in Ready at the first reading that has passed it; if the
tick source delivers such a reading at all, the delay ends. No bus event, whatever the device does. That a pass is a step,
with the wait held in `flight` between two of them, is the model's choice (log 1). -/
def Obligations.DelayEndsAtFirstPassedTick : Prop :=
  ∀ (s : State) (delay now : Tick) (early later : List Tick), s.resetIn = false → s.seq ≠ .idle →
    s.flight = some (.delay delay) → s.ticks = early ++ now :: later → (∀ x ∈ early, x - s.t0 < delay) →
    delay ≤ now - s.t0 →
    Sys2Proof.core.run (early.length + 1) s = .next (ended .ready
      { s with
        trace := s.trace ++ (early.map Event.tick ++ [.tick now]), ticks := later, draws := s.draws + early.length + 1 }) ∧
    ∀ k, k ≤ early.length → ∃ t : State, Sys2Proof.core.run k s = .next t ∧ t.flight = some (.delay delay) ∧ t.port = s.port

/-! ### The machine -/

/-- R185: an idle step accepts the presented request and runs the instruction its word decodes to; nothing else happens in it.
That a wire command can be presented too, and is accepted and run in the same way, is the model's choice (log 4). -/
def Obligations.StepRunsDecoded : Prop :=
  ∀ (s : State) (c : Code) (i : Instr), s.resetIn = false → s.seq = .idle → s.port = some c → decode c = .ok i →
    WellFormed i ∧ step s = exec i { s with port := none }

/-- The invariants of R36 as `StateInv` states them between steps: every step keeps them. -/
def Obligations.StepKeepsInvariants : Prop :=
  ∀ s t : State, StateInv s → step s = .next t → StateInv t

/-- R36: the invariants hold after reset. -/
def Obligations.ResetHasInvariants : Prop := StateInv State.reset

/-- R38, R260: the registers of the machine right after reset. -/
def Obligations.ResetRegisterValues : Prop :=
  State.reset.identity = ⟨0, 0, 0, 0, 0⟩ ∧ State.reset.pageCount = 0 ∧ State.reset.busBound = false ∧
  State.reset.csId = 0 ∧ State.reset.status.code = 0 ∧ State.reset.seq.code = 0 ∧
  State.reset.cmd = ⟨0, 0, 0, 0⟩ ∧ State.reset.adr = ⟨0, 0, 0⟩ ∧ State.reset.sr = 0 ∧ State.reset.cs = true ∧
  State.reset.crc = 0 ∧ State.reset.t0 = 0 ∧ State.reset.rspStatus = .reset ∧ State.reset.rspBusy = false ∧
  State.reset.trace = []

/-- R260, R261: reset, also in the middle of an operation: an open scope is closed by one CS1, no response is delivered, every
register takes its reset value. That reset is a level looked at between two steps, and that the environment stays as it is,
is the model's choice (log 11). -/
def Obligations.ResetInputResets : Prop :=
  ∀ s : State, s.resetIn = true → step s = .next
    { s with
      identity := State.reset.identity, pageCount := State.reset.pageCount, busBound := State.reset.busBound,
      csId := State.reset.csId, status := State.reset.status, seq := State.reset.seq, cmd := State.reset.cmd,
      adr := State.reset.adr, sr := State.reset.sr, cs := State.reset.cs, crc := State.reset.crc, t0 := State.reset.t0,
      fb := State.reset.fb, rspStatus := State.reset.rspStatus, rspBusy := State.reset.rspBusy, flight := none,
      trace := if s.cs then s.trace else s.trace ++ [.cs1] }

/-- R185, R268: while the sequencer is not idle no request is accepted. That the one held off stays presented is the model's
choice (log 25). -/
def Obligations.RequestHeldOffWhileBusy : Prop :=
  ∀ s t : State, s.seq ≠ .idle → step s = .next t → t.port = s.port

/-- R87, R230: every step answers next, whatever is presented. A wire frame that decodes to no instruction (a misaligned operand,
a wrong size or shape, an opcode of no row) is ErrorArgument with no bus event and nothing else changed, which is the model's
choice (log 4): the spec has no rule for a presented frame. -/
def Obligations.EveryStepAnswersNext : Prop :=
  (∀ s : State, ∃ t : State, step s = .next t) ∧
  ∀ (s : State) (crc : Bool) (bytes : List Byte) (e : DecodeError), s.resetIn = false → s.seq = .idle → s.cs = true →
    s.port = some (.frame crc bytes) → decodeFrame crc bytes = .error e →
    step s = .next (ended .errorArgument { s with port := none })

/-- R21, R22, R23: `identity`, `pageCount`, `busBound` and `csId` are latches that reset and INIT alone write: `identity` and
`pageCount` only while `pageCount` is 0 (so an INIT after a failed one may write `identity` again, R265), `busBound` and `csId`
only while the bus is unbound, in the step that accepts an INIT. No other request and no wire command writes one of them. An
INIT's later passes are those of its waits (log 1). -/
def Obligations.LatchesWrittenByInitAlone : Prop :=
  ∀ s t : State, s.resetIn = false → step s = .next t →
    (t.identity = s.identity ∧ t.pageCount = s.pageCount ∨
      s.pageCount = 0 ∧ (AcceptsRequest s .init ∨ InitGoesOn s)) ∧
    (t.busBound = s.busBound ∧ t.csId = s.csId ∨
      s.busBound = false ∧ AcceptsRequest s .init ∧ t.busBound = true ∧ t.csId = s.csIdIn)

/-- R22, R36 (c): `pageCount` leaves 0 only in a step that ends an INIT in Ready, with the known part's count. -/
def Obligations.PageCountSetByReadyInit : Prop :=
  ∀ s t : State, StateInv s → step s = .next t → s.pageCount = 0 → t.pageCount ≠ 0 →
    t.status = .ready ∧ t.flight = none ∧ t.identity.b0 = 0x1F ∧
    (partOf t.params t.identity.b1).map PartPages.pages = some t.pageCount ∧ (AcceptsRequest s .init ∨ InitGoesOn s)

/-- R231, property 2 of 95_test_vectors.md section 5: a request other than ISBUSY that ends in ErrorArgument,
ErrorInstruction or ErrorMemoryAllocation adds nothing to the wire trace. -/
def Obligations.GuardErrorsTouchNoBus : Prop :=
  ∀ (i : Instr) (s t : State), isWire i = false → i ≠ .isBusy → s.cs = true → exec i s = .next t → t.flight = none →
    t.status = .errorArgument ∨ t.status = .errorInstruction ∨ t.status = .errorMemoryAllocation →
    t.trace = s.trace

/-- R264: in every state that satisfies the invariants, a step of an uninitialised block adds an event to the wire trace only
if it accepts an INIT, goes on with one, or accepts an ISBUSY with the bus bound. And what such a block answers instead: to a
request, ErrorInstruction for an unrecognised selector, busy for an unbound ISBUSY, ErrorArgument for all the others but INIT;
to a wire command presented by itself, which by the model's choice is taken as an operation that comes too early (log 4),
ErrorArgument. That the unbound ISBUSY's response repeats `status` is log 20 (R33). -/
def Obligations.UninitialisedTouchesNoBus : Prop :=
  (∀ s t : State, StateInv s → step s = .next t → s.pageCount = 0 → t.trace = s.trace ∨ AcceptsRequest s .init ∨
    InitGoesOn s ∨ AcceptsRequest s .isBusy ∧ s.busBound = true) ∧
  ∀ s : State, s.pageCount = 0 → s.cs = true → s.resetIn = false → s.seq = .idle →
    (∀ w : BitVec 64, s.port = some (.request w) →
      (decodeRequest w ≠ .init → decodeRequest w ≠ .isBusy → (∀ g, decodeRequest w ≠ .eraseUnrecognised g) →
        step s = .next (ended .errorArgument { s with port := none })) ∧
      (∀ g, decodeRequest w = .eraseUnrecognised g → step s = .next (ended .errorInstruction { s with port := none })) ∧
      (decodeRequest w = .isBusy → s.busBound = false →
        step s = .next { s with port := none, rspStatus := s.status, rspBusy := true })) ∧
    ∀ (crc : Bool) (bytes : List Byte), s.port = some (.frame crc bytes) →
      step s = .next (ended .errorArgument { s with port := none })

/-- R30, R39: no step writes its inputs: the parameters, the straps, the grant, the reset input; and HostBuf is written by
a step that accepts a READ alone. -/
def Obligations.InputsAreNotWritten : Prop :=
  ∀ s t : State, step s = .next t →
    t.params = s.params ∧ t.busOk = s.busOk ∧ t.csIdIn = s.csIdIn ∧ t.frameGrant = s.frameGrant ∧
    t.resetIn = s.resetIn ∧
    (t.hostBuf = s.hostBuf ∨ ∃ (crc buf : Bool) (length : BitVec 16) (address : BitVec 32),
      AcceptsRequest s (.read crc buf length address))

/-- R14: the wire trace only grows. -/
def Obligations.TraceOnlyGrows : Prop :=
  ∀ s t : State, step s = .next t → ∃ evs : List Event, t.trace = s.trace ++ evs

/-- R25: the eleven status codes are distinct and bit 3 is 1 exactly for the six errors. -/
def Obligations.StatusCodes : Prop :=
  (∀ a b : Status, a.code = b.code → a = b) ∧ (∀ e : ErrorKind, e.status.code.getLsbD 3 = true) ∧
  (∀ v : Status, v.code.getLsbD 3 = true → ∃ e : ErrorKind, e.status = v)
end

