-- ==== Sys2Proof/Laws/State.lean ====
section
/-! SUPPORT. One lemma per field for every update of the state: what the field is after it. -/

namespace Sys2Proof.Machine

section
variable (p : Seq) (s : State)

@[simp] theorem setSeq_identity : (setSeq p s).identity = s.identity := rfl
@[simp] theorem setSeq_pageCount : (setSeq p s).pageCount = s.pageCount := rfl
@[simp] theorem setSeq_busBound : (setSeq p s).busBound = s.busBound := rfl
@[simp] theorem setSeq_csId : (setSeq p s).csId = s.csId := rfl
@[simp] theorem setSeq_status : (setSeq p s).status = s.status := rfl
@[simp] theorem setSeq_seq : (setSeq p s).seq = p := rfl
@[simp] theorem setSeq_cmd : (setSeq p s).cmd = s.cmd := rfl
@[simp] theorem setSeq_adr : (setSeq p s).adr = s.adr := rfl
@[simp] theorem setSeq_sr : (setSeq p s).sr = s.sr := rfl
@[simp] theorem setSeq_cs : (setSeq p s).cs = s.cs := rfl
@[simp] theorem setSeq_crc : (setSeq p s).crc = s.crc := rfl
@[simp] theorem setSeq_t0 : (setSeq p s).t0 = s.t0 := rfl
@[simp] theorem setSeq_fb : (setSeq p s).fb = s.fb := rfl
@[simp] theorem setSeq_rspStatus : (setSeq p s).rspStatus = s.rspStatus := rfl
@[simp] theorem setSeq_rspBusy : (setSeq p s).rspBusy = s.rspBusy := rfl
@[simp] theorem setSeq_trace : (setSeq p s).trace = s.trace := rfl
@[simp] theorem setSeq_flight : (setSeq p s).flight = s.flight := rfl
@[simp] theorem setSeq_params : (setSeq p s).params = s.params := rfl
@[simp] theorem setSeq_resetIn : (setSeq p s).resetIn = s.resetIn := rfl
@[simp] theorem setSeq_busOk : (setSeq p s).busOk = s.busOk := rfl
@[simp] theorem setSeq_csIdIn : (setSeq p s).csIdIn = s.csIdIn := rfl
@[simp] theorem setSeq_frameGrant : (setSeq p s).frameGrant = s.frameGrant := rfl
@[simp] theorem setSeq_port : (setSeq p s).port = s.port := rfl
@[simp] theorem setSeq_hostBuf : (setSeq p s).hostBuf = s.hostBuf := rfl
@[simp] theorem setSeq_bus : (setSeq p s).bus = s.bus := rfl
@[simp] theorem setSeq_ticks : (setSeq p s).ticks = s.ticks := rfl
@[simp] theorem setSeq_draws : (setSeq p s).draws = s.draws := rfl

end

section
variable (v : Status) (s : State)

@[simp] theorem startOperation_identity : (startOperation v s).identity = s.identity := rfl
@[simp] theorem startOperation_pageCount : (startOperation v s).pageCount = s.pageCount := rfl
@[simp] theorem startOperation_busBound : (startOperation v s).busBound = s.busBound := rfl
@[simp] theorem startOperation_csId : (startOperation v s).csId = s.csId := rfl
@[simp] theorem startOperation_status : (startOperation v s).status = v := rfl
@[simp] theorem startOperation_seq : (startOperation v s).seq = .guard := rfl
@[simp] theorem startOperation_cmd : (startOperation v s).cmd = s.cmd := rfl
@[simp] theorem startOperation_adr : (startOperation v s).adr = s.adr := rfl
@[simp] theorem startOperation_sr : (startOperation v s).sr = s.sr := rfl
@[simp] theorem startOperation_cs : (startOperation v s).cs = s.cs := rfl
@[simp] theorem startOperation_crc : (startOperation v s).crc = s.crc := rfl
@[simp] theorem startOperation_t0 : (startOperation v s).t0 = s.t0 := rfl
@[simp] theorem startOperation_fb : (startOperation v s).fb = s.fb := rfl
@[simp] theorem startOperation_rspStatus : (startOperation v s).rspStatus = s.rspStatus := rfl
@[simp] theorem startOperation_rspBusy : (startOperation v s).rspBusy = s.rspBusy := rfl
@[simp] theorem startOperation_trace : (startOperation v s).trace = s.trace := rfl
@[simp] theorem startOperation_flight : (startOperation v s).flight = s.flight := rfl
@[simp] theorem startOperation_params : (startOperation v s).params = s.params := rfl
@[simp] theorem startOperation_resetIn : (startOperation v s).resetIn = s.resetIn := rfl
@[simp] theorem startOperation_busOk : (startOperation v s).busOk = s.busOk := rfl
@[simp] theorem startOperation_csIdIn : (startOperation v s).csIdIn = s.csIdIn := rfl
@[simp] theorem startOperation_frameGrant : (startOperation v s).frameGrant = s.frameGrant := rfl
@[simp] theorem startOperation_port : (startOperation v s).port = s.port := rfl
@[simp] theorem startOperation_hostBuf : (startOperation v s).hostBuf = s.hostBuf := rfl
@[simp] theorem startOperation_bus : (startOperation v s).bus = s.bus := rfl
@[simp] theorem startOperation_ticks : (startOperation v s).ticks = s.ticks := rfl
@[simp] theorem startOperation_draws : (startOperation v s).draws = s.draws := rfl

end

section
variable (v : BitVec 16) (s : State)

@[simp] theorem setCrc_identity : (setCrc v s).identity = s.identity := rfl
@[simp] theorem setCrc_pageCount : (setCrc v s).pageCount = s.pageCount := rfl
@[simp] theorem setCrc_busBound : (setCrc v s).busBound = s.busBound := rfl
@[simp] theorem setCrc_csId : (setCrc v s).csId = s.csId := rfl
@[simp] theorem setCrc_status : (setCrc v s).status = s.status := rfl
@[simp] theorem setCrc_seq : (setCrc v s).seq = s.seq := rfl
@[simp] theorem setCrc_cmd : (setCrc v s).cmd = s.cmd := rfl
@[simp] theorem setCrc_adr : (setCrc v s).adr = s.adr := rfl
@[simp] theorem setCrc_sr : (setCrc v s).sr = s.sr := rfl
@[simp] theorem setCrc_cs : (setCrc v s).cs = s.cs := rfl
@[simp] theorem setCrc_crc : (setCrc v s).crc = v := rfl
@[simp] theorem setCrc_t0 : (setCrc v s).t0 = s.t0 := rfl
@[simp] theorem setCrc_fb : (setCrc v s).fb = s.fb := rfl
@[simp] theorem setCrc_rspStatus : (setCrc v s).rspStatus = s.rspStatus := rfl
@[simp] theorem setCrc_rspBusy : (setCrc v s).rspBusy = s.rspBusy := rfl
@[simp] theorem setCrc_trace : (setCrc v s).trace = s.trace := rfl
@[simp] theorem setCrc_flight : (setCrc v s).flight = s.flight := rfl
@[simp] theorem setCrc_params : (setCrc v s).params = s.params := rfl
@[simp] theorem setCrc_resetIn : (setCrc v s).resetIn = s.resetIn := rfl
@[simp] theorem setCrc_busOk : (setCrc v s).busOk = s.busOk := rfl
@[simp] theorem setCrc_csIdIn : (setCrc v s).csIdIn = s.csIdIn := rfl
@[simp] theorem setCrc_frameGrant : (setCrc v s).frameGrant = s.frameGrant := rfl
@[simp] theorem setCrc_port : (setCrc v s).port = s.port := rfl
@[simp] theorem setCrc_hostBuf : (setCrc v s).hostBuf = s.hostBuf := rfl
@[simp] theorem setCrc_bus : (setCrc v s).bus = s.bus := rfl
@[simp] theorem setCrc_ticks : (setCrc v s).ticks = s.ticks := rfl
@[simp] theorem setCrc_draws : (setCrc v s).draws = s.draws := rfl

end

section
variable (b : Byte) (s : State)

@[simp] theorem setSr_identity : (setSr b s).identity = s.identity := rfl
@[simp] theorem setSr_pageCount : (setSr b s).pageCount = s.pageCount := rfl
@[simp] theorem setSr_busBound : (setSr b s).busBound = s.busBound := rfl
@[simp] theorem setSr_csId : (setSr b s).csId = s.csId := rfl
@[simp] theorem setSr_status : (setSr b s).status = s.status := rfl
@[simp] theorem setSr_seq : (setSr b s).seq = s.seq := rfl
@[simp] theorem setSr_cmd : (setSr b s).cmd = s.cmd := rfl
@[simp] theorem setSr_adr : (setSr b s).adr = s.adr := rfl
@[simp] theorem setSr_sr : (setSr b s).sr = b := rfl
@[simp] theorem setSr_cs : (setSr b s).cs = s.cs := rfl
@[simp] theorem setSr_crc : (setSr b s).crc = s.crc := rfl
@[simp] theorem setSr_t0 : (setSr b s).t0 = s.t0 := rfl
@[simp] theorem setSr_fb : (setSr b s).fb = s.fb := rfl
@[simp] theorem setSr_rspStatus : (setSr b s).rspStatus = s.rspStatus := rfl
@[simp] theorem setSr_rspBusy : (setSr b s).rspBusy = s.rspBusy := rfl
@[simp] theorem setSr_trace : (setSr b s).trace = s.trace := rfl
@[simp] theorem setSr_flight : (setSr b s).flight = s.flight := rfl
@[simp] theorem setSr_params : (setSr b s).params = s.params := rfl
@[simp] theorem setSr_resetIn : (setSr b s).resetIn = s.resetIn := rfl
@[simp] theorem setSr_busOk : (setSr b s).busOk = s.busOk := rfl
@[simp] theorem setSr_csIdIn : (setSr b s).csIdIn = s.csIdIn := rfl
@[simp] theorem setSr_frameGrant : (setSr b s).frameGrant = s.frameGrant := rfl
@[simp] theorem setSr_port : (setSr b s).port = s.port := rfl
@[simp] theorem setSr_hostBuf : (setSr b s).hostBuf = s.hostBuf := rfl
@[simp] theorem setSr_bus : (setSr b s).bus = s.bus := rfl
@[simp] theorem setSr_ticks : (setSr b s).ticks = s.ticks := rfl
@[simp] theorem setSr_draws : (setSr b s).draws = s.draws := rfl

end

section
variable (l : List Byte) (s : State)

@[simp] theorem latchCmd_identity : (latchCmd l s).identity = s.identity := rfl
@[simp] theorem latchCmd_pageCount : (latchCmd l s).pageCount = s.pageCount := rfl
@[simp] theorem latchCmd_busBound : (latchCmd l s).busBound = s.busBound := rfl
@[simp] theorem latchCmd_csId : (latchCmd l s).csId = s.csId := rfl
@[simp] theorem latchCmd_status : (latchCmd l s).status = s.status := rfl
@[simp] theorem latchCmd_seq : (latchCmd l s).seq = s.seq := rfl
@[simp] theorem latchCmd_cmd : (latchCmd l s).cmd = ⟨l.getD 0 s.cmd.c0, l.getD 1 s.cmd.c1, l.getD 2 s.cmd.c2, l.getD 3 s.cmd.c3⟩ := rfl
@[simp] theorem latchCmd_adr : (latchCmd l s).adr = s.adr := rfl
@[simp] theorem latchCmd_sr : (latchCmd l s).sr = s.sr := rfl
@[simp] theorem latchCmd_cs : (latchCmd l s).cs = s.cs := rfl
@[simp] theorem latchCmd_crc : (latchCmd l s).crc = s.crc := rfl
@[simp] theorem latchCmd_t0 : (latchCmd l s).t0 = s.t0 := rfl
@[simp] theorem latchCmd_fb : (latchCmd l s).fb = s.fb := rfl
@[simp] theorem latchCmd_rspStatus : (latchCmd l s).rspStatus = s.rspStatus := rfl
@[simp] theorem latchCmd_rspBusy : (latchCmd l s).rspBusy = s.rspBusy := rfl
@[simp] theorem latchCmd_trace : (latchCmd l s).trace = s.trace := rfl
@[simp] theorem latchCmd_flight : (latchCmd l s).flight = s.flight := rfl
@[simp] theorem latchCmd_params : (latchCmd l s).params = s.params := rfl
@[simp] theorem latchCmd_resetIn : (latchCmd l s).resetIn = s.resetIn := rfl
@[simp] theorem latchCmd_busOk : (latchCmd l s).busOk = s.busOk := rfl
@[simp] theorem latchCmd_csIdIn : (latchCmd l s).csIdIn = s.csIdIn := rfl
@[simp] theorem latchCmd_frameGrant : (latchCmd l s).frameGrant = s.frameGrant := rfl
@[simp] theorem latchCmd_port : (latchCmd l s).port = s.port := rfl
@[simp] theorem latchCmd_hostBuf : (latchCmd l s).hostBuf = s.hostBuf := rfl
@[simp] theorem latchCmd_bus : (latchCmd l s).bus = s.bus := rfl
@[simp] theorem latchCmd_ticks : (latchCmd l s).ticks = s.ticks := rfl
@[simp] theorem latchCmd_draws : (latchCmd l s).draws = s.draws := rfl

end

section
variable (a : AdrReg) (s : State)

@[simp] theorem latchAdr_identity : (latchAdr a s).identity = s.identity := rfl
@[simp] theorem latchAdr_pageCount : (latchAdr a s).pageCount = s.pageCount := rfl
@[simp] theorem latchAdr_busBound : (latchAdr a s).busBound = s.busBound := rfl
@[simp] theorem latchAdr_csId : (latchAdr a s).csId = s.csId := rfl
@[simp] theorem latchAdr_status : (latchAdr a s).status = s.status := rfl
@[simp] theorem latchAdr_seq : (latchAdr a s).seq = s.seq := rfl
@[simp] theorem latchAdr_cmd : (latchAdr a s).cmd = s.cmd := rfl
@[simp] theorem latchAdr_adr : (latchAdr a s).adr = a := rfl
@[simp] theorem latchAdr_sr : (latchAdr a s).sr = s.sr := rfl
@[simp] theorem latchAdr_cs : (latchAdr a s).cs = s.cs := rfl
@[simp] theorem latchAdr_crc : (latchAdr a s).crc = s.crc := rfl
@[simp] theorem latchAdr_t0 : (latchAdr a s).t0 = s.t0 := rfl
@[simp] theorem latchAdr_fb : (latchAdr a s).fb = s.fb := rfl
@[simp] theorem latchAdr_rspStatus : (latchAdr a s).rspStatus = s.rspStatus := rfl
@[simp] theorem latchAdr_rspBusy : (latchAdr a s).rspBusy = s.rspBusy := rfl
@[simp] theorem latchAdr_trace : (latchAdr a s).trace = s.trace := rfl
@[simp] theorem latchAdr_flight : (latchAdr a s).flight = s.flight := rfl
@[simp] theorem latchAdr_params : (latchAdr a s).params = s.params := rfl
@[simp] theorem latchAdr_resetIn : (latchAdr a s).resetIn = s.resetIn := rfl
@[simp] theorem latchAdr_busOk : (latchAdr a s).busOk = s.busOk := rfl
@[simp] theorem latchAdr_csIdIn : (latchAdr a s).csIdIn = s.csIdIn := rfl
@[simp] theorem latchAdr_frameGrant : (latchAdr a s).frameGrant = s.frameGrant := rfl
@[simp] theorem latchAdr_port : (latchAdr a s).port = s.port := rfl
@[simp] theorem latchAdr_hostBuf : (latchAdr a s).hostBuf = s.hostBuf := rfl
@[simp] theorem latchAdr_bus : (latchAdr a s).bus = s.bus := rfl
@[simp] theorem latchAdr_ticks : (latchAdr a s).ticks = s.ticks := rfl
@[simp] theorem latchAdr_draws : (latchAdr a s).draws = s.draws := rfl

end

section
variable (e : Event) (s : State)

@[simp] theorem logEvent_identity : (logEvent e s).identity = s.identity := rfl
@[simp] theorem logEvent_pageCount : (logEvent e s).pageCount = s.pageCount := rfl
@[simp] theorem logEvent_busBound : (logEvent e s).busBound = s.busBound := rfl
@[simp] theorem logEvent_csId : (logEvent e s).csId = s.csId := rfl
@[simp] theorem logEvent_status : (logEvent e s).status = s.status := rfl
@[simp] theorem logEvent_seq : (logEvent e s).seq = s.seq := rfl
@[simp] theorem logEvent_cmd : (logEvent e s).cmd = s.cmd := rfl
@[simp] theorem logEvent_adr : (logEvent e s).adr = s.adr := rfl
@[simp] theorem logEvent_sr : (logEvent e s).sr = s.sr := rfl
@[simp] theorem logEvent_cs : (logEvent e s).cs = s.cs := rfl
@[simp] theorem logEvent_crc : (logEvent e s).crc = s.crc := rfl
@[simp] theorem logEvent_t0 : (logEvent e s).t0 = s.t0 := rfl
@[simp] theorem logEvent_fb : (logEvent e s).fb = s.fb := rfl
@[simp] theorem logEvent_rspStatus : (logEvent e s).rspStatus = s.rspStatus := rfl
@[simp] theorem logEvent_rspBusy : (logEvent e s).rspBusy = s.rspBusy := rfl
@[simp] theorem logEvent_trace : (logEvent e s).trace = s.trace ++ [e] := rfl
@[simp] theorem logEvent_flight : (logEvent e s).flight = s.flight := rfl
@[simp] theorem logEvent_params : (logEvent e s).params = s.params := rfl
@[simp] theorem logEvent_resetIn : (logEvent e s).resetIn = s.resetIn := rfl
@[simp] theorem logEvent_busOk : (logEvent e s).busOk = s.busOk := rfl
@[simp] theorem logEvent_csIdIn : (logEvent e s).csIdIn = s.csIdIn := rfl
@[simp] theorem logEvent_frameGrant : (logEvent e s).frameGrant = s.frameGrant := rfl
@[simp] theorem logEvent_port : (logEvent e s).port = s.port := rfl
@[simp] theorem logEvent_hostBuf : (logEvent e s).hostBuf = s.hostBuf := rfl
@[simp] theorem logEvent_bus : (logEvent e s).bus = s.bus := rfl
@[simp] theorem logEvent_ticks : (logEvent e s).ticks = s.ticks := rfl
@[simp] theorem logEvent_draws : (logEvent e s).draws = s.draws := rfl

end

section
variable (s : State)

@[simp] theorem csLow_identity : (csLow s).identity = s.identity := rfl
@[simp] theorem csLow_pageCount : (csLow s).pageCount = s.pageCount := rfl
@[simp] theorem csLow_busBound : (csLow s).busBound = s.busBound := rfl
@[simp] theorem csLow_csId : (csLow s).csId = s.csId := rfl
@[simp] theorem csLow_status : (csLow s).status = s.status := rfl
@[simp] theorem csLow_seq : (csLow s).seq = s.seq := rfl
@[simp] theorem csLow_cmd : (csLow s).cmd = s.cmd := rfl
@[simp] theorem csLow_adr : (csLow s).adr = s.adr := rfl
@[simp] theorem csLow_sr : (csLow s).sr = s.sr := rfl
@[simp] theorem csLow_cs : (csLow s).cs = false := rfl
@[simp] theorem csLow_crc : (csLow s).crc = s.crc := rfl
@[simp] theorem csLow_t0 : (csLow s).t0 = s.t0 := rfl
@[simp] theorem csLow_fb : (csLow s).fb = s.fb := rfl
@[simp] theorem csLow_rspStatus : (csLow s).rspStatus = s.rspStatus := rfl
@[simp] theorem csLow_rspBusy : (csLow s).rspBusy = s.rspBusy := rfl
@[simp] theorem csLow_trace : (csLow s).trace = s.trace ++ [.cs0] := rfl
@[simp] theorem csLow_flight : (csLow s).flight = s.flight := rfl
@[simp] theorem csLow_params : (csLow s).params = s.params := rfl
@[simp] theorem csLow_resetIn : (csLow s).resetIn = s.resetIn := rfl
@[simp] theorem csLow_busOk : (csLow s).busOk = s.busOk := rfl
@[simp] theorem csLow_csIdIn : (csLow s).csIdIn = s.csIdIn := rfl
@[simp] theorem csLow_frameGrant : (csLow s).frameGrant = s.frameGrant := rfl
@[simp] theorem csLow_port : (csLow s).port = s.port := rfl
@[simp] theorem csLow_hostBuf : (csLow s).hostBuf = s.hostBuf := rfl
@[simp] theorem csLow_bus : (csLow s).bus = s.bus := rfl
@[simp] theorem csLow_ticks : (csLow s).ticks = s.ticks := rfl
@[simp] theorem csLow_draws : (csLow s).draws = s.draws := rfl

end

section
variable (s : State)

@[simp] theorem csHigh_identity : (csHigh s).identity = s.identity := rfl
@[simp] theorem csHigh_pageCount : (csHigh s).pageCount = s.pageCount := rfl
@[simp] theorem csHigh_busBound : (csHigh s).busBound = s.busBound := rfl
@[simp] theorem csHigh_csId : (csHigh s).csId = s.csId := rfl
@[simp] theorem csHigh_status : (csHigh s).status = s.status := rfl
@[simp] theorem csHigh_seq : (csHigh s).seq = s.seq := rfl
@[simp] theorem csHigh_cmd : (csHigh s).cmd = s.cmd := rfl
@[simp] theorem csHigh_adr : (csHigh s).adr = s.adr := rfl
@[simp] theorem csHigh_sr : (csHigh s).sr = s.sr := rfl
@[simp] theorem csHigh_cs : (csHigh s).cs = true := rfl
@[simp] theorem csHigh_crc : (csHigh s).crc = s.crc := rfl
@[simp] theorem csHigh_t0 : (csHigh s).t0 = s.t0 := rfl
@[simp] theorem csHigh_fb : (csHigh s).fb = s.fb := rfl
@[simp] theorem csHigh_rspStatus : (csHigh s).rspStatus = s.rspStatus := rfl
@[simp] theorem csHigh_rspBusy : (csHigh s).rspBusy = s.rspBusy := rfl
@[simp] theorem csHigh_trace : (csHigh s).trace = s.trace ++ [.cs1] := rfl
@[simp] theorem csHigh_flight : (csHigh s).flight = s.flight := rfl
@[simp] theorem csHigh_params : (csHigh s).params = s.params := rfl
@[simp] theorem csHigh_resetIn : (csHigh s).resetIn = s.resetIn := rfl
@[simp] theorem csHigh_busOk : (csHigh s).busOk = s.busOk := rfl
@[simp] theorem csHigh_csIdIn : (csHigh s).csIdIn = s.csIdIn := rfl
@[simp] theorem csHigh_frameGrant : (csHigh s).frameGrant = s.frameGrant := rfl
@[simp] theorem csHigh_port : (csHigh s).port = s.port := rfl
@[simp] theorem csHigh_hostBuf : (csHigh s).hostBuf = s.hostBuf := rfl
@[simp] theorem csHigh_bus : (csHigh s).bus = s.bus := rfl
@[simp] theorem csHigh_ticks : (csHigh s).ticks = s.ticks := rfl
@[simp] theorem csHigh_draws : (csHigh s).draws = s.draws := rfl

end

section
variable (s : State)

@[simp] theorem dropAnswer_identity : (dropAnswer s).identity = s.identity := rfl
@[simp] theorem dropAnswer_pageCount : (dropAnswer s).pageCount = s.pageCount := rfl
@[simp] theorem dropAnswer_busBound : (dropAnswer s).busBound = s.busBound := rfl
@[simp] theorem dropAnswer_csId : (dropAnswer s).csId = s.csId := rfl
@[simp] theorem dropAnswer_status : (dropAnswer s).status = s.status := rfl
@[simp] theorem dropAnswer_seq : (dropAnswer s).seq = s.seq := rfl
@[simp] theorem dropAnswer_cmd : (dropAnswer s).cmd = s.cmd := rfl
@[simp] theorem dropAnswer_adr : (dropAnswer s).adr = s.adr := rfl
@[simp] theorem dropAnswer_sr : (dropAnswer s).sr = s.sr := rfl
@[simp] theorem dropAnswer_cs : (dropAnswer s).cs = s.cs := rfl
@[simp] theorem dropAnswer_crc : (dropAnswer s).crc = s.crc := rfl
@[simp] theorem dropAnswer_t0 : (dropAnswer s).t0 = s.t0 := rfl
@[simp] theorem dropAnswer_fb : (dropAnswer s).fb = s.fb := rfl
@[simp] theorem dropAnswer_rspStatus : (dropAnswer s).rspStatus = s.rspStatus := rfl
@[simp] theorem dropAnswer_rspBusy : (dropAnswer s).rspBusy = s.rspBusy := rfl
@[simp] theorem dropAnswer_trace : (dropAnswer s).trace = s.trace := rfl
@[simp] theorem dropAnswer_flight : (dropAnswer s).flight = s.flight := rfl
@[simp] theorem dropAnswer_params : (dropAnswer s).params = s.params := rfl
@[simp] theorem dropAnswer_resetIn : (dropAnswer s).resetIn = s.resetIn := rfl
@[simp] theorem dropAnswer_busOk : (dropAnswer s).busOk = s.busOk := rfl
@[simp] theorem dropAnswer_csIdIn : (dropAnswer s).csIdIn = s.csIdIn := rfl
@[simp] theorem dropAnswer_frameGrant : (dropAnswer s).frameGrant = s.frameGrant := rfl
@[simp] theorem dropAnswer_port : (dropAnswer s).port = s.port := rfl
@[simp] theorem dropAnswer_hostBuf : (dropAnswer s).hostBuf = s.hostBuf := rfl
@[simp] theorem dropAnswer_bus : (dropAnswer s).bus = s.bus.tail := rfl
@[simp] theorem dropAnswer_ticks : (dropAnswer s).ticks = s.ticks := rfl
@[simp] theorem dropAnswer_draws : (dropAnswer s).draws = s.draws + 1 := rfl

end

section
variable (s : State)

@[simp] theorem readTick_identity : (readTick s).identity = s.identity := rfl
@[simp] theorem readTick_pageCount : (readTick s).pageCount = s.pageCount := rfl
@[simp] theorem readTick_busBound : (readTick s).busBound = s.busBound := rfl
@[simp] theorem readTick_csId : (readTick s).csId = s.csId := rfl
@[simp] theorem readTick_status : (readTick s).status = s.status := rfl
@[simp] theorem readTick_seq : (readTick s).seq = s.seq := rfl
@[simp] theorem readTick_cmd : (readTick s).cmd = s.cmd := rfl
@[simp] theorem readTick_adr : (readTick s).adr = s.adr := rfl
@[simp] theorem readTick_sr : (readTick s).sr = s.sr := rfl
@[simp] theorem readTick_cs : (readTick s).cs = s.cs := rfl
@[simp] theorem readTick_crc : (readTick s).crc = s.crc := rfl
@[simp] theorem readTick_t0 : (readTick s).t0 = s.t0 := rfl
@[simp] theorem readTick_fb : (readTick s).fb = s.fb := rfl
@[simp] theorem readTick_rspStatus : (readTick s).rspStatus = s.rspStatus := rfl
@[simp] theorem readTick_rspBusy : (readTick s).rspBusy = s.rspBusy := rfl
@[simp] theorem readTick_trace : (readTick s).trace = s.trace ++ [.tick (nextTick s)] := rfl
@[simp] theorem readTick_flight : (readTick s).flight = s.flight := rfl
@[simp] theorem readTick_params : (readTick s).params = s.params := rfl
@[simp] theorem readTick_resetIn : (readTick s).resetIn = s.resetIn := rfl
@[simp] theorem readTick_busOk : (readTick s).busOk = s.busOk := rfl
@[simp] theorem readTick_csIdIn : (readTick s).csIdIn = s.csIdIn := rfl
@[simp] theorem readTick_frameGrant : (readTick s).frameGrant = s.frameGrant := rfl
@[simp] theorem readTick_port : (readTick s).port = s.port := rfl
@[simp] theorem readTick_hostBuf : (readTick s).hostBuf = s.hostBuf := rfl
@[simp] theorem readTick_bus : (readTick s).bus = s.bus := rfl
@[simp] theorem readTick_ticks : (readTick s).ticks = s.ticks.tail := rfl
@[simp] theorem readTick_draws : (readTick s).draws = s.draws + 1 := rfl

end

section
variable (s : State)

@[simp] theorem startWait_identity : (startWait s).identity = s.identity := rfl
@[simp] theorem startWait_pageCount : (startWait s).pageCount = s.pageCount := rfl
@[simp] theorem startWait_busBound : (startWait s).busBound = s.busBound := rfl
@[simp] theorem startWait_csId : (startWait s).csId = s.csId := rfl
@[simp] theorem startWait_status : (startWait s).status = s.status := rfl
@[simp] theorem startWait_seq : (startWait s).seq = .wait := rfl
@[simp] theorem startWait_cmd : (startWait s).cmd = s.cmd := rfl
@[simp] theorem startWait_adr : (startWait s).adr = s.adr := rfl
@[simp] theorem startWait_sr : (startWait s).sr = s.sr := rfl
@[simp] theorem startWait_cs : (startWait s).cs = s.cs := rfl
@[simp] theorem startWait_crc : (startWait s).crc = s.crc := rfl
@[simp] theorem startWait_t0 : (startWait s).t0 = nextTick s := rfl
@[simp] theorem startWait_fb : (startWait s).fb = s.fb := rfl
@[simp] theorem startWait_rspStatus : (startWait s).rspStatus = s.rspStatus := rfl
@[simp] theorem startWait_rspBusy : (startWait s).rspBusy = s.rspBusy := rfl
@[simp] theorem startWait_trace : (startWait s).trace = s.trace ++ [.tick (nextTick s)] := rfl
@[simp] theorem startWait_flight : (startWait s).flight = s.flight := rfl
@[simp] theorem startWait_params : (startWait s).params = s.params := rfl
@[simp] theorem startWait_resetIn : (startWait s).resetIn = s.resetIn := rfl
@[simp] theorem startWait_busOk : (startWait s).busOk = s.busOk := rfl
@[simp] theorem startWait_csIdIn : (startWait s).csIdIn = s.csIdIn := rfl
@[simp] theorem startWait_frameGrant : (startWait s).frameGrant = s.frameGrant := rfl
@[simp] theorem startWait_port : (startWait s).port = s.port := rfl
@[simp] theorem startWait_hostBuf : (startWait s).hostBuf = s.hostBuf := rfl
@[simp] theorem startWait_bus : (startWait s).bus = s.bus := rfl
@[simp] theorem startWait_ticks : (startWait s).ticks = s.ticks.tail := rfl
@[simp] theorem startWait_draws : (startWait s).draws = s.draws + 1 := rfl

end

section
variable (l : List Byte) (s : State)

@[simp] theorem storeFb_identity : (storeFb l s).identity = s.identity := rfl
@[simp] theorem storeFb_pageCount : (storeFb l s).pageCount = s.pageCount := rfl
@[simp] theorem storeFb_busBound : (storeFb l s).busBound = s.busBound := rfl
@[simp] theorem storeFb_csId : (storeFb l s).csId = s.csId := rfl
@[simp] theorem storeFb_status : (storeFb l s).status = s.status := rfl
@[simp] theorem storeFb_seq : (storeFb l s).seq = s.seq := rfl
@[simp] theorem storeFb_cmd : (storeFb l s).cmd = s.cmd := rfl
@[simp] theorem storeFb_adr : (storeFb l s).adr = s.adr := rfl
@[simp] theorem storeFb_sr : (storeFb l s).sr = s.sr := rfl
@[simp] theorem storeFb_cs : (storeFb l s).cs = s.cs := rfl
@[simp] theorem storeFb_crc : (storeFb l s).crc = s.crc := rfl
@[simp] theorem storeFb_t0 : (storeFb l s).t0 = s.t0 := rfl
@[simp] theorem storeFb_fb : (storeFb l s).fb = Memory.writeBytes s.fb 0 l := rfl
@[simp] theorem storeFb_rspStatus : (storeFb l s).rspStatus = s.rspStatus := rfl
@[simp] theorem storeFb_rspBusy : (storeFb l s).rspBusy = s.rspBusy := rfl
@[simp] theorem storeFb_trace : (storeFb l s).trace = s.trace := rfl
@[simp] theorem storeFb_flight : (storeFb l s).flight = s.flight := rfl
@[simp] theorem storeFb_params : (storeFb l s).params = s.params := rfl
@[simp] theorem storeFb_resetIn : (storeFb l s).resetIn = s.resetIn := rfl
@[simp] theorem storeFb_busOk : (storeFb l s).busOk = s.busOk := rfl
@[simp] theorem storeFb_csIdIn : (storeFb l s).csIdIn = s.csIdIn := rfl
@[simp] theorem storeFb_frameGrant : (storeFb l s).frameGrant = s.frameGrant := rfl
@[simp] theorem storeFb_port : (storeFb l s).port = s.port := rfl
@[simp] theorem storeFb_hostBuf : (storeFb l s).hostBuf = s.hostBuf := rfl
@[simp] theorem storeFb_bus : (storeFb l s).bus = s.bus := rfl
@[simp] theorem storeFb_ticks : (storeFb l s).ticks = s.ticks := rfl
@[simp] theorem storeFb_draws : (storeFb l s).draws = s.draws := rfl

end

section
variable (l : List Byte) (s : State)

@[simp] theorem storeHost_identity : (storeHost l s).identity = s.identity := rfl
@[simp] theorem storeHost_pageCount : (storeHost l s).pageCount = s.pageCount := rfl
@[simp] theorem storeHost_busBound : (storeHost l s).busBound = s.busBound := rfl
@[simp] theorem storeHost_csId : (storeHost l s).csId = s.csId := rfl
@[simp] theorem storeHost_status : (storeHost l s).status = s.status := rfl
@[simp] theorem storeHost_seq : (storeHost l s).seq = s.seq := rfl
@[simp] theorem storeHost_cmd : (storeHost l s).cmd = s.cmd := rfl
@[simp] theorem storeHost_adr : (storeHost l s).adr = s.adr := rfl
@[simp] theorem storeHost_sr : (storeHost l s).sr = s.sr := rfl
@[simp] theorem storeHost_cs : (storeHost l s).cs = s.cs := rfl
@[simp] theorem storeHost_crc : (storeHost l s).crc = s.crc := rfl
@[simp] theorem storeHost_t0 : (storeHost l s).t0 = s.t0 := rfl
@[simp] theorem storeHost_fb : (storeHost l s).fb = s.fb := rfl
@[simp] theorem storeHost_rspStatus : (storeHost l s).rspStatus = s.rspStatus := rfl
@[simp] theorem storeHost_rspBusy : (storeHost l s).rspBusy = s.rspBusy := rfl
@[simp] theorem storeHost_trace : (storeHost l s).trace = s.trace := rfl
@[simp] theorem storeHost_flight : (storeHost l s).flight = s.flight := rfl
@[simp] theorem storeHost_params : (storeHost l s).params = s.params := rfl
@[simp] theorem storeHost_resetIn : (storeHost l s).resetIn = s.resetIn := rfl
@[simp] theorem storeHost_busOk : (storeHost l s).busOk = s.busOk := rfl
@[simp] theorem storeHost_csIdIn : (storeHost l s).csIdIn = s.csIdIn := rfl
@[simp] theorem storeHost_frameGrant : (storeHost l s).frameGrant = s.frameGrant := rfl
@[simp] theorem storeHost_port : (storeHost l s).port = s.port := rfl
@[simp] theorem storeHost_hostBuf : (storeHost l s).hostBuf = Memory.writeBytes s.hostBuf 0 l := rfl
@[simp] theorem storeHost_bus : (storeHost l s).bus = s.bus := rfl
@[simp] theorem storeHost_ticks : (storeHost l s).ticks = s.ticks := rfl
@[simp] theorem storeHost_draws : (storeHost l s).draws = s.draws := rfl

end

section
variable (s : State)

@[simp] theorem returnReady_identity : (returnReady s).identity = s.identity := rfl
@[simp] theorem returnReady_pageCount : (returnReady s).pageCount = s.pageCount := rfl
@[simp] theorem returnReady_busBound : (returnReady s).busBound = s.busBound := rfl
@[simp] theorem returnReady_csId : (returnReady s).csId = s.csId := rfl
@[simp] theorem returnReady_status : (returnReady s).status = .ready := rfl
@[simp] theorem returnReady_seq : (returnReady s).seq = .idle := rfl
@[simp] theorem returnReady_cmd : (returnReady s).cmd = s.cmd := rfl
@[simp] theorem returnReady_adr : (returnReady s).adr = s.adr := rfl
@[simp] theorem returnReady_sr : (returnReady s).sr = s.sr := rfl
@[simp] theorem returnReady_cs : (returnReady s).cs = s.cs := rfl
@[simp] theorem returnReady_crc : (returnReady s).crc = s.crc := rfl
@[simp] theorem returnReady_t0 : (returnReady s).t0 = s.t0 := rfl
@[simp] theorem returnReady_fb : (returnReady s).fb = s.fb := rfl
@[simp] theorem returnReady_rspStatus : (returnReady s).rspStatus = .ready := rfl
@[simp] theorem returnReady_rspBusy : (returnReady s).rspBusy = false := rfl
@[simp] theorem returnReady_trace : (returnReady s).trace = s.trace := rfl
@[simp] theorem returnReady_flight : (returnReady s).flight = none := rfl
@[simp] theorem returnReady_params : (returnReady s).params = s.params := rfl
@[simp] theorem returnReady_resetIn : (returnReady s).resetIn = s.resetIn := rfl
@[simp] theorem returnReady_busOk : (returnReady s).busOk = s.busOk := rfl
@[simp] theorem returnReady_csIdIn : (returnReady s).csIdIn = s.csIdIn := rfl
@[simp] theorem returnReady_frameGrant : (returnReady s).frameGrant = s.frameGrant := rfl
@[simp] theorem returnReady_port : (returnReady s).port = s.port := rfl
@[simp] theorem returnReady_hostBuf : (returnReady s).hostBuf = s.hostBuf := rfl
@[simp] theorem returnReady_bus : (returnReady s).bus = s.bus := rfl
@[simp] theorem returnReady_ticks : (returnReady s).ticks = s.ticks := rfl
@[simp] theorem returnReady_draws : (returnReady s).draws = s.draws := rfl

end

section
variable (f : Flight) (s : State)

@[simp] theorem park_identity : (park f s).identity = s.identity := rfl
@[simp] theorem park_pageCount : (park f s).pageCount = s.pageCount := rfl
@[simp] theorem park_busBound : (park f s).busBound = s.busBound := rfl
@[simp] theorem park_csId : (park f s).csId = s.csId := rfl
@[simp] theorem park_status : (park f s).status = s.status := rfl
@[simp] theorem park_seq : (park f s).seq = s.seq := rfl
@[simp] theorem park_cmd : (park f s).cmd = s.cmd := rfl
@[simp] theorem park_adr : (park f s).adr = s.adr := rfl
@[simp] theorem park_sr : (park f s).sr = s.sr := rfl
@[simp] theorem park_cs : (park f s).cs = s.cs := rfl
@[simp] theorem park_crc : (park f s).crc = s.crc := rfl
@[simp] theorem park_t0 : (park f s).t0 = s.t0 := rfl
@[simp] theorem park_fb : (park f s).fb = s.fb := rfl
@[simp] theorem park_rspStatus : (park f s).rspStatus = s.rspStatus := rfl
@[simp] theorem park_rspBusy : (park f s).rspBusy = s.rspBusy := rfl
@[simp] theorem park_trace : (park f s).trace = s.trace := rfl
@[simp] theorem park_flight : (park f s).flight = some f := rfl
@[simp] theorem park_params : (park f s).params = s.params := rfl
@[simp] theorem park_resetIn : (park f s).resetIn = s.resetIn := rfl
@[simp] theorem park_busOk : (park f s).busOk = s.busOk := rfl
@[simp] theorem park_csIdIn : (park f s).csIdIn = s.csIdIn := rfl
@[simp] theorem park_frameGrant : (park f s).frameGrant = s.frameGrant := rfl
@[simp] theorem park_port : (park f s).port = s.port := rfl
@[simp] theorem park_hostBuf : (park f s).hostBuf = s.hostBuf := rfl
@[simp] theorem park_bus : (park f s).bus = s.bus := rfl
@[simp] theorem park_ticks : (park f s).ticks = s.ticks := rfl
@[simp] theorem park_draws : (park f s).draws = s.draws := rfl

end

section
variable (s : State)

@[simp] theorem unpark_identity : (unpark s).identity = s.identity := rfl
@[simp] theorem unpark_pageCount : (unpark s).pageCount = s.pageCount := rfl
@[simp] theorem unpark_busBound : (unpark s).busBound = s.busBound := rfl
@[simp] theorem unpark_csId : (unpark s).csId = s.csId := rfl
@[simp] theorem unpark_status : (unpark s).status = s.status := rfl
@[simp] theorem unpark_seq : (unpark s).seq = s.seq := rfl
@[simp] theorem unpark_cmd : (unpark s).cmd = s.cmd := rfl
@[simp] theorem unpark_adr : (unpark s).adr = s.adr := rfl
@[simp] theorem unpark_sr : (unpark s).sr = s.sr := rfl
@[simp] theorem unpark_cs : (unpark s).cs = s.cs := rfl
@[simp] theorem unpark_crc : (unpark s).crc = s.crc := rfl
@[simp] theorem unpark_t0 : (unpark s).t0 = s.t0 := rfl
@[simp] theorem unpark_fb : (unpark s).fb = s.fb := rfl
@[simp] theorem unpark_rspStatus : (unpark s).rspStatus = s.rspStatus := rfl
@[simp] theorem unpark_rspBusy : (unpark s).rspBusy = s.rspBusy := rfl
@[simp] theorem unpark_trace : (unpark s).trace = s.trace := rfl
@[simp] theorem unpark_flight : (unpark s).flight = none := rfl
@[simp] theorem unpark_params : (unpark s).params = s.params := rfl
@[simp] theorem unpark_resetIn : (unpark s).resetIn = s.resetIn := rfl
@[simp] theorem unpark_busOk : (unpark s).busOk = s.busOk := rfl
@[simp] theorem unpark_csIdIn : (unpark s).csIdIn = s.csIdIn := rfl
@[simp] theorem unpark_frameGrant : (unpark s).frameGrant = s.frameGrant := rfl
@[simp] theorem unpark_port : (unpark s).port = s.port := rfl
@[simp] theorem unpark_hostBuf : (unpark s).hostBuf = s.hostBuf := rfl
@[simp] theorem unpark_bus : (unpark s).bus = s.bus := rfl
@[simp] theorem unpark_ticks : (unpark s).ticks = s.ticks := rfl
@[simp] theorem unpark_draws : (unpark s).draws = s.draws := rfl

end

section
variable (b : Bool) (s : State)

@[simp] theorem respondBusy_identity : (respondBusy b s).identity = s.identity := rfl
@[simp] theorem respondBusy_pageCount : (respondBusy b s).pageCount = s.pageCount := rfl
@[simp] theorem respondBusy_busBound : (respondBusy b s).busBound = s.busBound := rfl
@[simp] theorem respondBusy_csId : (respondBusy b s).csId = s.csId := rfl
@[simp] theorem respondBusy_status : (respondBusy b s).status = s.status := rfl
@[simp] theorem respondBusy_seq : (respondBusy b s).seq = s.seq := rfl
@[simp] theorem respondBusy_cmd : (respondBusy b s).cmd = s.cmd := rfl
@[simp] theorem respondBusy_adr : (respondBusy b s).adr = s.adr := rfl
@[simp] theorem respondBusy_sr : (respondBusy b s).sr = s.sr := rfl
@[simp] theorem respondBusy_cs : (respondBusy b s).cs = s.cs := rfl
@[simp] theorem respondBusy_crc : (respondBusy b s).crc = s.crc := rfl
@[simp] theorem respondBusy_t0 : (respondBusy b s).t0 = s.t0 := rfl
@[simp] theorem respondBusy_fb : (respondBusy b s).fb = s.fb := rfl
@[simp] theorem respondBusy_rspStatus : (respondBusy b s).rspStatus = s.status := rfl
@[simp] theorem respondBusy_rspBusy : (respondBusy b s).rspBusy = b := rfl
@[simp] theorem respondBusy_trace : (respondBusy b s).trace = s.trace := rfl
@[simp] theorem respondBusy_flight : (respondBusy b s).flight = s.flight := rfl
@[simp] theorem respondBusy_params : (respondBusy b s).params = s.params := rfl
@[simp] theorem respondBusy_resetIn : (respondBusy b s).resetIn = s.resetIn := rfl
@[simp] theorem respondBusy_busOk : (respondBusy b s).busOk = s.busOk := rfl
@[simp] theorem respondBusy_csIdIn : (respondBusy b s).csIdIn = s.csIdIn := rfl
@[simp] theorem respondBusy_frameGrant : (respondBusy b s).frameGrant = s.frameGrant := rfl
@[simp] theorem respondBusy_port : (respondBusy b s).port = s.port := rfl
@[simp] theorem respondBusy_hostBuf : (respondBusy b s).hostBuf = s.hostBuf := rfl
@[simp] theorem respondBusy_bus : (respondBusy b s).bus = s.bus := rfl
@[simp] theorem respondBusy_ticks : (respondBusy b s).ticks = s.ticks := rfl
@[simp] theorem respondBusy_draws : (respondBusy b s).draws = s.draws := rfl

end

section
variable (s : State)

@[simp] theorem accept_identity : (accept s).identity = s.identity := rfl
@[simp] theorem accept_pageCount : (accept s).pageCount = s.pageCount := rfl
@[simp] theorem accept_busBound : (accept s).busBound = s.busBound := rfl
@[simp] theorem accept_csId : (accept s).csId = s.csId := rfl
@[simp] theorem accept_status : (accept s).status = s.status := rfl
@[simp] theorem accept_seq : (accept s).seq = s.seq := rfl
@[simp] theorem accept_cmd : (accept s).cmd = s.cmd := rfl
@[simp] theorem accept_adr : (accept s).adr = s.adr := rfl
@[simp] theorem accept_sr : (accept s).sr = s.sr := rfl
@[simp] theorem accept_cs : (accept s).cs = s.cs := rfl
@[simp] theorem accept_crc : (accept s).crc = s.crc := rfl
@[simp] theorem accept_t0 : (accept s).t0 = s.t0 := rfl
@[simp] theorem accept_fb : (accept s).fb = s.fb := rfl
@[simp] theorem accept_rspStatus : (accept s).rspStatus = s.rspStatus := rfl
@[simp] theorem accept_rspBusy : (accept s).rspBusy = s.rspBusy := rfl
@[simp] theorem accept_trace : (accept s).trace = s.trace := rfl
@[simp] theorem accept_flight : (accept s).flight = s.flight := rfl
@[simp] theorem accept_params : (accept s).params = s.params := rfl
@[simp] theorem accept_resetIn : (accept s).resetIn = s.resetIn := rfl
@[simp] theorem accept_busOk : (accept s).busOk = s.busOk := rfl
@[simp] theorem accept_csIdIn : (accept s).csIdIn = s.csIdIn := rfl
@[simp] theorem accept_frameGrant : (accept s).frameGrant = s.frameGrant := rfl
@[simp] theorem accept_port : (accept s).port = none := rfl
@[simp] theorem accept_hostBuf : (accept s).hostBuf = s.hostBuf := rfl
@[simp] theorem accept_bus : (accept s).bus = s.bus := rfl
@[simp] theorem accept_ticks : (accept s).ticks = s.ticks := rfl
@[simp] theorem accept_draws : (accept s).draws = s.draws := rfl

end

section
variable (e : ErrorKind) (s : State)

@[simp] theorem raise_identity : (raise e s).identity = s.identity := by
  simp only [raise]; split <;> simp_all
@[simp] theorem raise_pageCount : (raise e s).pageCount = s.pageCount := by
  simp only [raise]; split <;> simp_all
@[simp] theorem raise_busBound : (raise e s).busBound = s.busBound := by
  simp only [raise]; split <;> simp_all
@[simp] theorem raise_csId : (raise e s).csId = s.csId := by
  simp only [raise]; split <;> simp_all
@[simp] theorem raise_status : (raise e s).status = e.status := rfl
@[simp] theorem raise_seq : (raise e s).seq = .idle := rfl
@[simp] theorem raise_cmd : (raise e s).cmd = s.cmd := by
  simp only [raise]; split <;> simp_all
@[simp] theorem raise_adr : (raise e s).adr = s.adr := by
  simp only [raise]; split <;> simp_all
@[simp] theorem raise_sr : (raise e s).sr = s.sr := by
  simp only [raise]; split <;> simp_all
@[simp] theorem raise_cs : (raise e s).cs = true := by
  simp only [raise]; split <;> simp_all
@[simp] theorem raise_crc : (raise e s).crc = s.crc := by
  simp only [raise]; split <;> simp_all
@[simp] theorem raise_t0 : (raise e s).t0 = s.t0 := by
  simp only [raise]; split <;> simp_all
@[simp] theorem raise_fb : (raise e s).fb = s.fb := by
  simp only [raise]; split <;> simp_all
@[simp] theorem raise_rspStatus : (raise e s).rspStatus = e.status := rfl
@[simp] theorem raise_rspBusy : (raise e s).rspBusy = false := rfl
@[simp] theorem raise_trace : (raise e s).trace = if s.cs then s.trace else s.trace ++ [.cs1] := by
  simp only [raise]; split <;> simp_all
@[simp] theorem raise_flight : (raise e s).flight = none := rfl
@[simp] theorem raise_params : (raise e s).params = s.params := by
  simp only [raise]; split <;> simp_all
@[simp] theorem raise_resetIn : (raise e s).resetIn = s.resetIn := by
  simp only [raise]; split <;> simp_all
@[simp] theorem raise_busOk : (raise e s).busOk = s.busOk := by
  simp only [raise]; split <;> simp_all
@[simp] theorem raise_csIdIn : (raise e s).csIdIn = s.csIdIn := by
  simp only [raise]; split <;> simp_all
@[simp] theorem raise_frameGrant : (raise e s).frameGrant = s.frameGrant := by
  simp only [raise]; split <;> simp_all
@[simp] theorem raise_port : (raise e s).port = s.port := by
  simp only [raise]; split <;> simp_all
@[simp] theorem raise_hostBuf : (raise e s).hostBuf = s.hostBuf := by
  simp only [raise]; split <;> simp_all
@[simp] theorem raise_bus : (raise e s).bus = s.bus := by
  simp only [raise]; split <;> simp_all
@[simp] theorem raise_ticks : (raise e s).ticks = s.ticks := by
  simp only [raise]; split <;> simp_all
@[simp] theorem raise_draws : (raise e s).draws = s.draws := by
  simp only [raise]; split <;> simp_all

end

section
variable (id : Identity) (s : State)

@[simp] theorem latchIdentity_identity : (latchIdentity id s).identity = if s.pageCount = 0 then id else s.identity := by
  simp only [latchIdentity]; split <;> simp_all
@[simp] theorem latchIdentity_pageCount : (latchIdentity id s).pageCount = s.pageCount := by
  simp only [latchIdentity]; split <;> simp_all
@[simp] theorem latchIdentity_busBound : (latchIdentity id s).busBound = s.busBound := by
  simp only [latchIdentity]; split <;> simp_all
@[simp] theorem latchIdentity_csId : (latchIdentity id s).csId = s.csId := by
  simp only [latchIdentity]; split <;> simp_all
@[simp] theorem latchIdentity_status : (latchIdentity id s).status = s.status := by
  simp only [latchIdentity]; split <;> simp_all
@[simp] theorem latchIdentity_seq : (latchIdentity id s).seq = s.seq := by
  simp only [latchIdentity]; split <;> simp_all
@[simp] theorem latchIdentity_cmd : (latchIdentity id s).cmd = s.cmd := by
  simp only [latchIdentity]; split <;> simp_all
@[simp] theorem latchIdentity_adr : (latchIdentity id s).adr = s.adr := by
  simp only [latchIdentity]; split <;> simp_all
@[simp] theorem latchIdentity_sr : (latchIdentity id s).sr = s.sr := by
  simp only [latchIdentity]; split <;> simp_all
@[simp] theorem latchIdentity_cs : (latchIdentity id s).cs = s.cs := by
  simp only [latchIdentity]; split <;> simp_all
@[simp] theorem latchIdentity_crc : (latchIdentity id s).crc = s.crc := by
  simp only [latchIdentity]; split <;> simp_all
@[simp] theorem latchIdentity_t0 : (latchIdentity id s).t0 = s.t0 := by
  simp only [latchIdentity]; split <;> simp_all
@[simp] theorem latchIdentity_fb : (latchIdentity id s).fb = s.fb := by
  simp only [latchIdentity]; split <;> simp_all
@[simp] theorem latchIdentity_rspStatus : (latchIdentity id s).rspStatus = s.rspStatus := by
  simp only [latchIdentity]; split <;> simp_all
@[simp] theorem latchIdentity_rspBusy : (latchIdentity id s).rspBusy = s.rspBusy := by
  simp only [latchIdentity]; split <;> simp_all
@[simp] theorem latchIdentity_trace : (latchIdentity id s).trace = s.trace := by
  simp only [latchIdentity]; split <;> simp_all
@[simp] theorem latchIdentity_flight : (latchIdentity id s).flight = s.flight := by
  simp only [latchIdentity]; split <;> simp_all
@[simp] theorem latchIdentity_params : (latchIdentity id s).params = s.params := by
  simp only [latchIdentity]; split <;> simp_all
@[simp] theorem latchIdentity_resetIn : (latchIdentity id s).resetIn = s.resetIn := by
  simp only [latchIdentity]; split <;> simp_all
@[simp] theorem latchIdentity_busOk : (latchIdentity id s).busOk = s.busOk := by
  simp only [latchIdentity]; split <;> simp_all
@[simp] theorem latchIdentity_csIdIn : (latchIdentity id s).csIdIn = s.csIdIn := by
  simp only [latchIdentity]; split <;> simp_all
@[simp] theorem latchIdentity_frameGrant : (latchIdentity id s).frameGrant = s.frameGrant := by
  simp only [latchIdentity]; split <;> simp_all
@[simp] theorem latchIdentity_port : (latchIdentity id s).port = s.port := by
  simp only [latchIdentity]; split <;> simp_all
@[simp] theorem latchIdentity_hostBuf : (latchIdentity id s).hostBuf = s.hostBuf := by
  simp only [latchIdentity]; split <;> simp_all
@[simp] theorem latchIdentity_bus : (latchIdentity id s).bus = s.bus := by
  simp only [latchIdentity]; split <;> simp_all
@[simp] theorem latchIdentity_ticks : (latchIdentity id s).ticks = s.ticks := by
  simp only [latchIdentity]; split <;> simp_all
@[simp] theorem latchIdentity_draws : (latchIdentity id s).draws = s.draws := by
  simp only [latchIdentity]; split <;> simp_all

end

section
variable (part : PartPages) (s : State)

@[simp] theorem latchPages_identity : (latchPages part s).identity = s.identity := by
  simp only [latchPages]; split <;> simp_all
@[simp] theorem latchPages_pageCount : (latchPages part s).pageCount = if s.pageCount = 0 then part.pages else s.pageCount := by
  simp only [latchPages]; split <;> simp_all
@[simp] theorem latchPages_busBound : (latchPages part s).busBound = s.busBound := by
  simp only [latchPages]; split <;> simp_all
@[simp] theorem latchPages_csId : (latchPages part s).csId = s.csId := by
  simp only [latchPages]; split <;> simp_all
@[simp] theorem latchPages_status : (latchPages part s).status = s.status := by
  simp only [latchPages]; split <;> simp_all
@[simp] theorem latchPages_seq : (latchPages part s).seq = s.seq := by
  simp only [latchPages]; split <;> simp_all
@[simp] theorem latchPages_cmd : (latchPages part s).cmd = s.cmd := by
  simp only [latchPages]; split <;> simp_all
@[simp] theorem latchPages_adr : (latchPages part s).adr = s.adr := by
  simp only [latchPages]; split <;> simp_all
@[simp] theorem latchPages_sr : (latchPages part s).sr = s.sr := by
  simp only [latchPages]; split <;> simp_all
@[simp] theorem latchPages_cs : (latchPages part s).cs = s.cs := by
  simp only [latchPages]; split <;> simp_all
@[simp] theorem latchPages_crc : (latchPages part s).crc = s.crc := by
  simp only [latchPages]; split <;> simp_all
@[simp] theorem latchPages_t0 : (latchPages part s).t0 = s.t0 := by
  simp only [latchPages]; split <;> simp_all
@[simp] theorem latchPages_fb : (latchPages part s).fb = s.fb := by
  simp only [latchPages]; split <;> simp_all
@[simp] theorem latchPages_rspStatus : (latchPages part s).rspStatus = s.rspStatus := by
  simp only [latchPages]; split <;> simp_all
@[simp] theorem latchPages_rspBusy : (latchPages part s).rspBusy = s.rspBusy := by
  simp only [latchPages]; split <;> simp_all
@[simp] theorem latchPages_trace : (latchPages part s).trace = s.trace := by
  simp only [latchPages]; split <;> simp_all
@[simp] theorem latchPages_flight : (latchPages part s).flight = s.flight := by
  simp only [latchPages]; split <;> simp_all
@[simp] theorem latchPages_params : (latchPages part s).params = s.params := by
  simp only [latchPages]; split <;> simp_all
@[simp] theorem latchPages_resetIn : (latchPages part s).resetIn = s.resetIn := by
  simp only [latchPages]; split <;> simp_all
@[simp] theorem latchPages_busOk : (latchPages part s).busOk = s.busOk := by
  simp only [latchPages]; split <;> simp_all
@[simp] theorem latchPages_csIdIn : (latchPages part s).csIdIn = s.csIdIn := by
  simp only [latchPages]; split <;> simp_all
@[simp] theorem latchPages_frameGrant : (latchPages part s).frameGrant = s.frameGrant := by
  simp only [latchPages]; split <;> simp_all
@[simp] theorem latchPages_port : (latchPages part s).port = s.port := by
  simp only [latchPages]; split <;> simp_all
@[simp] theorem latchPages_hostBuf : (latchPages part s).hostBuf = s.hostBuf := by
  simp only [latchPages]; split <;> simp_all
@[simp] theorem latchPages_bus : (latchPages part s).bus = s.bus := by
  simp only [latchPages]; split <;> simp_all
@[simp] theorem latchPages_ticks : (latchPages part s).ticks = s.ticks := by
  simp only [latchPages]; split <;> simp_all
@[simp] theorem latchPages_draws : (latchPages part s).draws = s.draws := by
  simp only [latchPages]; split <;> simp_all

end

section
variable (s : State)

@[simp] theorem bindBus_identity : (bindBus s).identity = s.identity := by
  simp only [bindBus]; split <;> simp_all
@[simp] theorem bindBus_pageCount : (bindBus s).pageCount = s.pageCount := by
  simp only [bindBus]; split <;> simp_all
@[simp] theorem bindBus_busBound : (bindBus s).busBound = true := by
  simp only [bindBus]; split <;> simp_all
@[simp] theorem bindBus_csId : (bindBus s).csId = if s.busBound then s.csId else s.csIdIn := by
  simp only [bindBus]; split <;> simp_all
@[simp] theorem bindBus_status : (bindBus s).status = s.status := by
  simp only [bindBus]; split <;> simp_all
@[simp] theorem bindBus_seq : (bindBus s).seq = s.seq := by
  simp only [bindBus]; split <;> simp_all
@[simp] theorem bindBus_cmd : (bindBus s).cmd = s.cmd := by
  simp only [bindBus]; split <;> simp_all
@[simp] theorem bindBus_adr : (bindBus s).adr = s.adr := by
  simp only [bindBus]; split <;> simp_all
@[simp] theorem bindBus_sr : (bindBus s).sr = s.sr := by
  simp only [bindBus]; split <;> simp_all
@[simp] theorem bindBus_cs : (bindBus s).cs = s.cs := by
  simp only [bindBus]; split <;> simp_all
@[simp] theorem bindBus_crc : (bindBus s).crc = s.crc := by
  simp only [bindBus]; split <;> simp_all
@[simp] theorem bindBus_t0 : (bindBus s).t0 = s.t0 := by
  simp only [bindBus]; split <;> simp_all
@[simp] theorem bindBus_fb : (bindBus s).fb = s.fb := by
  simp only [bindBus]; split <;> simp_all
@[simp] theorem bindBus_rspStatus : (bindBus s).rspStatus = s.rspStatus := by
  simp only [bindBus]; split <;> simp_all
@[simp] theorem bindBus_rspBusy : (bindBus s).rspBusy = s.rspBusy := by
  simp only [bindBus]; split <;> simp_all
@[simp] theorem bindBus_trace : (bindBus s).trace = s.trace := by
  simp only [bindBus]; split <;> simp_all
@[simp] theorem bindBus_flight : (bindBus s).flight = s.flight := by
  simp only [bindBus]; split <;> simp_all
@[simp] theorem bindBus_params : (bindBus s).params = s.params := by
  simp only [bindBus]; split <;> simp_all
@[simp] theorem bindBus_resetIn : (bindBus s).resetIn = s.resetIn := by
  simp only [bindBus]; split <;> simp_all
@[simp] theorem bindBus_busOk : (bindBus s).busOk = s.busOk := by
  simp only [bindBus]; split <;> simp_all
@[simp] theorem bindBus_csIdIn : (bindBus s).csIdIn = s.csIdIn := by
  simp only [bindBus]; split <;> simp_all
@[simp] theorem bindBus_frameGrant : (bindBus s).frameGrant = s.frameGrant := by
  simp only [bindBus]; split <;> simp_all
@[simp] theorem bindBus_port : (bindBus s).port = s.port := by
  simp only [bindBus]; split <;> simp_all
@[simp] theorem bindBus_hostBuf : (bindBus s).hostBuf = s.hostBuf := by
  simp only [bindBus]; split <;> simp_all
@[simp] theorem bindBus_bus : (bindBus s).bus = s.bus := by
  simp only [bindBus]; split <;> simp_all
@[simp] theorem bindBus_ticks : (bindBus s).ticks = s.ticks := by
  simp only [bindBus]; split <;> simp_all
@[simp] theorem bindBus_draws : (bindBus s).draws = s.draws := by
  simp only [bindBus]; split <;> simp_all

end

end Sys2Proof.Machine
end

