-- ==== Sys2Proof/Laws/Bus.lean ====
section
/-! SUPPORT. What a transport call, a frame and a wait pass can do, said once each: the state after it, and how the
wire trace has grown. -/

namespace Sys2Proof.Machine

/-- One transport call: the trace grows by its one event, one answer is used up, nothing else changes. -/
theorem transfer_state (c : Call) (s : State) : ∃ e : Event, e.isTransfer = true ∧
    (transfer c s).2 = { s with trace := s.trace ++ [e], bus := s.bus.tail, draws := s.draws + 1 } := by
  cases c <;> simp only [transfer] <;> split <;> exact ⟨_, rfl, rfl⟩

/-- A run of calls: the trace grows by transfer events only; nothing but the trace and the answers changes. -/
theorem runCalls_state (calls : List Call) (s : State) : ∃ evs : List Event, (∀ e ∈ evs, e.isTransfer = true) ∧
    ∃ bus draws, (runCalls calls s).2 = { s with trace := s.trace ++ evs, bus := bus, draws := draws } := by
  induction calls generalizing s with
  | nil => exact ⟨[], by simp, s.bus, s.draws, by simp [runCalls]⟩
  | cons c cs ih =>
    obtain ⟨e, he, hs⟩ := transfer_state c s
    obtain ⟨evs, hev, bus, draws, hr⟩ := ih (transfer c s).2
    rw [hs] at hr
    rcases ht : transfer c s with ⟨_ | bytes, s1⟩
    · exact ⟨[e], by simpa, _, _, by simp only [runCalls, ht]; rw [ht] at hs; exact hs⟩
    · rw [ht] at hs
      simp only at hs
      refine ⟨e :: evs, by simpa [he] using hev, bus, draws, ?_⟩
      have h2 : (runCalls (c :: cs) s).2 = (runCalls cs s1).2 := by
        simp only [runCalls, ht]
        rcases runCalls cs s1 with ⟨_ | _, _⟩ <;> rfl
      rw [h2, hs, hr]
      simp

/-- A frame (R156, R157): one scope around transfer events, chip select released, the sequencer in GAP, the answers
used up; every other field is unchanged. -/
theorem runFrame_state (calls : List Call) (s : State) : ∃ evs : List Event, (∀ e ∈ evs, e.isTransfer = true) ∧
    ∃ bus draws, (runFrame calls s).2 =
      { s with seq := .gap, cs := true, trace := s.trace ++ (.cs0 :: evs ++ [.cs1]), bus := bus, draws := draws } := by
  obtain ⟨evs, hev, bus, draws, h⟩ := runCalls_state calls (csLow (setSeq .frame s))
  refine ⟨evs, hev, bus, draws, ?_⟩
  simp only [runFrame, h]
  simp [setSeq, csHigh, csLow]

/-- A call that succeeds, when the next answer is known. -/
theorem transfer_tx_ok {s : State} {bytes b : List Byte} {rest : List BusAnswer} (h : s.bus = ⟨true, b⟩ :: rest) :
    transfer (.tx bytes) s = (some [], logEvent (.tx bytes) (dropAnswer s)) := by
  simp [transfer, answer, h]

/-- A transmit that fails, when the next answer is known. -/
theorem transfer_tx_fail {s : State} {bytes b : List Byte} {rest : List BusAnswer} (h : s.bus = ⟨false, b⟩ :: rest) :
    transfer (.tx bytes) s = (none, logEvent (.txFail bytes) (dropAnswer s)) := by
  simp [transfer, answer, h]

/-- The bytes of a receive, when the next answer lists at least that many. -/
theorem received_eq_take {s : State} {n : Nat} {b : List Byte} {ok : Bool} {rest : List BusAnswer}
    (h : s.bus = ⟨ok, b⟩ :: rest) (hn : n ≤ b.length) : received s n = b.take n := by
  apply List.ext_getElem
  · simp [received, hn]
  · intro i h1 h2
    have hi : i < b.length := by
      simp [received] at h1
      omega
    simp [received, answer, h, hi]

@[simp] theorem length_received (s : State) (n : Nat) : (received s n).length = n := by simp [received]

/-- A receive that succeeds, when the next answer is known. -/
theorem transfer_rx_ok {s : State} {n : Nat} {b : List Byte} {rest : List BusAnswer} (h : s.bus = ⟨true, b⟩ :: rest) :
    transfer (.rx n) s = (some (received s n), logEvent (.rx (received s n)) (dropAnswer s)) := by
  simp [transfer, answer, h]

/-- A receive that fails, when the next answer is known. -/
theorem transfer_rx_fail {s : State} {n : Nat} {b : List Byte} {rest : List BusAnswer}
    (h : s.bus = ⟨false, b⟩ :: rest) :
    transfer (.rx n) s = (none, logEvent (.rxFail n) (dropAnswer s)) := by
  simp [transfer, answer, h]

/-! ### The frames -/

/-- A format WF-A frame leaves its opcode in `cmd` and its address in `adr`. -/
theorem frameAddressed_state (op : LogicalOp) (a : Nat) (s : State) :
    ∃ evs : List Event, (∀ e ∈ evs, e.isTransfer = true) ∧ ∃ bus draws, (frameAddressed op a s).2 =
      { latchAdr (encAddrOfOffset a) (latchCmd (encOp s.params op) s) with
        seq := .gap, cs := true, trace := s.trace ++ (.cs0 :: evs ++ [.cs1]), bus := bus, draws := draws } :=
  runFrame_state _ _

theorem frameSequence_state (op : LogicalOp) (s : State) :
    ∃ evs : List Event, (∀ e ∈ evs, e.isTransfer = true) ∧ ∃ bus draws, (frameSequence op s).2 =
      { latchCmd (encOp s.params op) s with
        seq := .gap, cs := true, trace := s.trace ++ (.cs0 :: evs ++ [.cs1]), bus := bus, draws := draws } :=
  runFrame_state _ _

theorem frameBufwr_state (payload : List Byte) (c : Option (BitVec 16)) (s : State) :
    ∃ evs : List Event, (∀ e ∈ evs, e.isTransfer = true) ∧ ∃ bus draws, (frameBufwr payload c s).2 =
      { latchAdr (encAddr 0 0) (latchCmd (encOp s.params .bufferWrite) s) with
        seq := .gap, cs := true, trace := s.trace ++ (.cs0 :: evs ++ [.cs1]), bus := bus, draws := draws } :=
  runFrame_state _ _

/-- PGRD leaves FB alone when it fails, and stores the received bytes when it succeeds. -/
theorem framePgrd_state (a n : Nat) (s : State) :
    ∃ evs : List Event, (∀ e ∈ evs, e.isTransfer = true) ∧ ∃ bus draws fb, (framePgrd a n s).2 =
      { latchAdr (encAddrOfOffset a) (latchCmd (encOp s.params .pageRead) s) with
        seq := .gap, cs := true, trace := s.trace ++ (.cs0 :: evs ++ [.cs1]), bus := bus, draws := draws, fb := fb } ∧
      fb = match (framePgrd a n s).1 with
        | none => s.fb
        | some bytes => Memory.writeBytes s.fb 0 bytes := by
  obtain ⟨evs, hev, bus, draws, h⟩ := runFrame_state
    (callsWfAR (encOp s.params .pageRead) (encAddrOfOffset a) n)
    (latchAdr (encAddrOfOffset a) (latchCmd (encOp s.params .pageRead) s))
  refine ⟨evs, hev, bus, draws, _, ?_, rfl⟩
  simp only [framePgrd]
  split <;> simp only [h] <;> simp [storeFb, latchAdr, latchCmd]

/-- SRRD writes `sr` and nothing else of the handle but its opcode byte. -/
theorem frameSrrd_state (s : State) :
    ∃ evs : List Event, (∀ e ∈ evs, e.isTransfer = true) ∧ ∃ bus draws sr, (frameSrrd s).2 =
      { latchCmd (encOp s.params .statusRead) s with
        seq := .gap, cs := true, trace := s.trace ++ (.cs0 :: evs ++ [.cs1]), bus := bus, draws := draws, sr := sr } ∧
      ((frameSrrd s).1 = none → sr = s.sr) := by
  obtain ⟨evs, hev, bus, draws, h⟩ := runFrame_state
    (callsWfR (encOp s.params .statusRead) 1) (latchCmd (encOp s.params .statusRead) s)
  simp only [frameSrrd]
  split
  · exact ⟨evs, hev, bus, draws, s.sr, by simp only [h]; simp, fun _ => rfl⟩
  · rename_i bytes _
    exact ⟨evs, hev, bus, draws, bytes.headD 0, by simp only [h]; rfl, by simp⟩

/-- IDRD writes nothing of the handle but its opcode byte. -/
theorem frameIdrd_state (s : State) :
    ∃ evs : List Event, (∀ e ∈ evs, e.isTransfer = true) ∧ ∃ bus draws, (frameIdrd s).2 =
      { latchCmd (encOp s.params .idRead) s with
        seq := .gap, cs := true, trace := s.trace ++ (.cs0 :: evs ++ [.cs1]), bus := bus, draws := draws } :=
  runFrame_state _ _

/-! ### The wire trace -/

/-- Reading a trace in two parts. -/
theorem scanTrace_append (level : Bool) (es fs : List Event) :
    scanTrace level (es ++ fs) = (scanTrace level es).bind fun l => scanTrace l fs := by
  induction es generalizing level with
  | nil => cases level <;> rfl
  | cons e es ih => cases level <;> cases e <;> simp [scanTrace, ih]

/-- Transfer events leave an open scope open. -/
theorem scanTrace_transfers (es : List Event) (h : ∀ e ∈ es, e.isTransfer = true) :
    scanTrace false es = some false := by
  induction es with
  | nil => rfl
  | cons e es ih =>
    have he := h e List.mem_cons_self
    have ht := ih fun x hx => h x (List.mem_cons_of_mem _ hx)
    cases e <;> simp_all [scanTrace, Event.isTransfer]

/-- A well-framed trace stays well framed when a frame is appended (R156). -/
theorem wellFramed_append_frame {trace evs : List Event} (h : WellFramed trace)
    (hev : ∀ e ∈ evs, e.isTransfer = true) : WellFramed (trace ++ (.cs0 :: evs ++ [.cs1])) := by
  rw [WellFramed, scanTrace_append, h]
  simp only [Option.bind_some, List.cons_append, scanTrace]
  rw [scanTrace_append, scanTrace_transfers evs hev]
  rfl

/-- A well-framed trace stays well framed when a tick reading is appended (R156 (c)). -/
theorem wellFramed_append_tick {trace : List Event} (h : WellFramed trace) (t : Tick) :
    WellFramed (trace ++ [.tick t]) := by
  rw [WellFramed, scanTrace_append, h]
  rfl

end Sys2Proof.Machine
end

