-- ==== Sys2Proof/Laws/Memory.lean ====
section
/-! SUPPORT. Bytes by index: a read after a write, what a write leaves alone, and the canonical form, which every
write keeps. -/

namespace Sys2Proof.Machine

@[simp] theorem Memory.read_nil (a : Nat) : Memory.read [] a = none := rfl

@[simp] theorem Memory.read_write_same (m : Memory) (a : Nat) (b : Byte) :
    Memory.read (Memory.write m a b) a = some b := by
  induction m with
  | nil => simp [Memory.write, Memory.read]
  | cons x m ih =>
    obtain ⟨k, v⟩ := x
    unfold Memory.write
    split
    · simp [Memory.read]
    · split
      · simp [Memory.read]
      · rw [Memory.read, if_neg (by omega), ih]

theorem Memory.read_write_other (m : Memory) {a a' : Nat} (b : Byte) (h : a' ≠ a) :
    Memory.read (Memory.write m a b) a' = Memory.read m a' := by
  induction m with
  | nil => simp [Memory.write, Memory.read, Ne.symm h]
  | cons x m ih =>
    obtain ⟨k, v⟩ := x
    unfold Memory.write
    split
    · rw [Memory.read, if_neg (Ne.symm h)]
    · split
      · subst_vars
        rw [Memory.read, if_neg (Ne.symm h), Memory.read, if_neg (Ne.symm h)]
      · rw [Memory.read, Memory.read, ih]

/-- Reading after a run of writes: the byte written, or what was there. -/
theorem Memory.read_writeBytes (m : Memory) (a : Nat) (bs : List Byte) (i : Nat) :
    Memory.read (Memory.writeBytes m a bs) i =
      if a ≤ i ∧ i < a + bs.length then bs[i - a]? else Memory.read m i := by
  induction bs generalizing m a with
  | nil =>
    rw [Memory.writeBytes, if_neg]
    simp
  | cons b bs ih =>
    rw [Memory.writeBytes, ih]
    by_cases hi : i = a
    · subst hi
      simp
    · rw [Memory.read_write_other _ _ hi]
      by_cases h : a + 1 ≤ i ∧ i < a + 1 + bs.length
      · rw [if_pos h, if_pos (by simp only [List.length_cons]; omega), show i - a = (i - (a + 1)) + 1 by omega,
          List.getElem?_cons_succ]
      · rw [if_neg h, if_neg (by simp only [List.length_cons]; omega)]

/-- A byte inside a run of writes from index 0. -/
theorem Memory.read_writeBytes_inside (m : Memory) (bs : List Byte) {i : Nat} (h : i < bs.length) :
    Memory.read (Memory.writeBytes m 0 bs) i = some bs[i] := by
  rw [Memory.read_writeBytes, if_pos ⟨Nat.zero_le _, by omega⟩, Nat.sub_zero, List.getElem?_eq_getElem h]

/-- A byte outside a run of writes from index 0. -/
theorem Memory.read_writeBytes_outside (m : Memory) (bs : List Byte) {i : Nat} (h : bs.length ≤ i) :
    Memory.read (Memory.writeBytes m 0 bs) i = Memory.read m i := by
  rw [Memory.read_writeBytes, if_neg (by omega)]

/-! ### The canonical form -/

/-- The canonical form with a lower bound on the first index. -/
theorem Memory.wf_cons_iff (x : Host.Cell) (m : Memory) :
    Memory.wf (x :: m) = true ↔ (∀ y ∈ m.head?, x.1 < y.1) ∧ Memory.wf m = true := by
  cases m with
  | nil => simp [Memory.wf]
  | cons y m => simp [Memory.wf]

/-- The first index after a write: the written one or the old first one. -/
theorem Memory.head_write (m : Memory) (a : Nat) (b : Byte) :
    ∀ y ∈ (Memory.write m a b).head?, y.1 = a ∨ ∃ z ∈ m.head?, y.1 = z.1 := by
  cases m with
  | nil => simp [Memory.write]
  | cons x m =>
    obtain ⟨k, v⟩ := x
    unfold Memory.write
    split
    · simp
    · split <;> simp

theorem Memory.wf_write (m : Memory) (a : Nat) (b : Byte) (h : Memory.wf m = true) :
    Memory.wf (Memory.write m a b) = true := by
  induction m with
  | nil => rfl
  | cons x m ih =>
    obtain ⟨k, v⟩ := x
    have hm := (Memory.wf_cons_iff _ _).mp h
    unfold Memory.write
    split
    · exact (Memory.wf_cons_iff _ _).mpr ⟨by simpa, h⟩
    · split
      · subst_vars
        exact (Memory.wf_cons_iff _ _).mpr ⟨hm.1, hm.2⟩
      · refine (Memory.wf_cons_iff _ _).mpr ⟨?_, ih hm.2⟩
        intro y hy
        rcases Memory.head_write m a b y hy with hya | ⟨z, hz, hyz⟩
        · rw [hya]
          change k < a
          omega
        · rw [hyz]
          exact hm.1 z hz

theorem Memory.wf_writeBytes (m : Memory) (a : Nat) (bs : List Byte) (h : Memory.wf m = true) :
    Memory.wf (Memory.writeBytes m a bs) = true := by
  induction bs generalizing m a with
  | nil => exact h
  | cons b bs ih => exact ih _ _ (Memory.wf_write m a b h)

/-- The indices a write lists are the old ones and its own. -/
theorem Memory.mem_write (m : Memory) (a : Nat) (b : Byte) :
    ∀ x ∈ Memory.write m a b, x.1 = a ∨ ∃ y ∈ m, x.1 = y.1 := by
  induction m with
  | nil => simp [Memory.write]
  | cons z m ih =>
    obtain ⟨k, v⟩ := z
    intro x hx
    unfold Memory.write at hx
    split at hx
    · rcases List.mem_cons.mp hx with rfl | hx
      · exact .inl rfl
      · exact .inr ⟨x, hx, rfl⟩
    · split at hx
      · rcases List.mem_cons.mp hx with rfl | hx
        · exact .inl rfl
        · exact .inr ⟨x, List.mem_cons_of_mem _ hx, rfl⟩
      · rcases List.mem_cons.mp hx with rfl | hx
        · exact .inr ⟨_, List.mem_cons_self, rfl⟩
        · rcases ih x hx with h | ⟨y, hy, h⟩
          · exact .inl h
          · exact .inr ⟨y, List.mem_cons_of_mem _ hy, h⟩

/-- Every index of a run of writes is an old one or inside the run. -/
theorem Memory.mem_writeBytes (m : Memory) (a : Nat) (bs : List Byte) :
    ∀ x ∈ Memory.writeBytes m a bs, (a ≤ x.1 ∧ x.1 < a + bs.length) ∨ ∃ y ∈ m, x.1 = y.1 := by
  induction bs generalizing m a with
  | nil => exact fun x hx => .inr ⟨x, hx, rfl⟩
  | cons b bs ih =>
    intro x hx
    rcases ih _ _ x hx with h | ⟨y, hy, h⟩
    · exact .inl (by simp only [List.length_cons]; omega)
    · rcases Memory.mem_write m a b y hy with h' | ⟨z, hz, h'⟩
      · exact .inl (by simp only [List.length_cons]; omega)
      · exact .inr ⟨z, hz, h.trans h'⟩

/-! ### FB and HostBuf -/

/-- What was just received reads back from FB (R34). -/
theorem fbBytes_storeFb (bytes : List Byte) (s : State) {n : Nat} (h : n ≤ bytes.length) :
    fbBytes (storeFb bytes s) n = bytes.take n := by
  apply List.ext_getElem
  · simp [fbBytes, h]
  · intro i h1 h2
    have hi : i < bytes.length := by
      simp [fbBytes] at h1
      omega
    simp [fbBytes, fbByte, storeFb, Memory.read_writeBytes_inside _ _ hi]

@[simp] theorem length_fbBytes (s : State) (n : Nat) : (fbBytes s n).length = n := by simp [fbBytes]

@[simp] theorem length_hostBytes (s : State) (n : Nat) : (hostBytes s n).length = n := by simp [hostBytes]

end Sys2Proof.Machine
end

