-- ==== Sys2Proof/Laws/Frames.lean ====
section
/-! SUPPORT. What each frame, wait pass and exit gives when the environment's next answers are known: one equation
each, cited instead of unfolding a frame. -/

namespace Sys2Proof.Machine

/-- A receive of exactly the bytes the next answer lists. -/
theorem received_all {s : State} {bytes : List Byte} {rest : List BusAnswer} (h : s.bus = ⟨true, bytes⟩ :: rest) :
    received s bytes.length = bytes := by
  rw [received_eq_take h (Nat.le_refl _), List.take_length]

/-- A WF-A frame whose two calls succeed (R115, R116, R118 to R120). -/
theorem frameAddressed_ok {op : LogicalOp} {a : Nat} {s : State} {b0 b1 : List Byte} {rest : List BusAnswer}
    (h : s.bus = ⟨true, b0⟩ :: ⟨true, b1⟩ :: rest) :
    frameAddressed op a s = (some [],
      { latchAdr (encAddrOfOffset a) (latchCmd (encOp s.params op) s) with
        seq := .gap, cs := true,
        trace := s.trace ++ [.cs0, .tx (encOp s.params op), .tx (encAddrOfOffset a).toList, .cs1],
        bus := rest, draws := s.draws + 2 }) := by
  simp [frameAddressed, runFrame, callsWfA, runCalls, transfer, answer, h, csLow, csHigh, setSeq, logEvent, dropAnswer]

/-- A one-sequence frame whose call succeeds (R121, R124). -/
theorem frameSequence_ok {op : LogicalOp} {s : State} {b0 : List Byte} {rest : List BusAnswer}
    (h : s.bus = ⟨true, b0⟩ :: rest) :
    frameSequence op s = (some [],
      { latchCmd (encOp s.params op) s with
        seq := .gap, cs := true, trace := s.trace ++ [.cs0, .tx (encOp s.params op), .cs1],
        bus := rest, draws := s.draws + 1 }) := by
  simp [frameSequence, runFrame, callsWf4, runCalls, transfer, answer, h, csLow, csHigh, setSeq, logEvent, dropAnswer]

/-- A status read whose calls succeed (R122). -/
theorem frameSrrd_ok {s : State} {b0 m : List Byte} {st : Byte} {rest : List BusAnswer}
    (h : s.bus = ⟨true, b0⟩ :: ⟨true, st :: m⟩ :: rest) :
    frameSrrd s = (some [st],
      { s with
        cmd := { s.cmd with c0 := s.params.opSrrd }, sr := st, seq := .gap, cs := true,
        trace := s.trace ++ [.cs0, .tx [s.params.opSrrd], .rx [st], .cs1], bus := rest, draws := s.draws + 2 }) := by
  simp [frameSrrd, runFrame, callsWfR, runCalls, transfer, answer, received, h, csLow, csHigh, setSeq, logEvent,
    dropAnswer, latchCmd, encOp, setSr]

/-- A status read whose receive fails (R160). -/
theorem frameSrrd_rx_fail {s : State} {b0 m : List Byte} {rest : List BusAnswer}
    (h : s.bus = ⟨true, b0⟩ :: ⟨false, m⟩ :: rest) :
    frameSrrd s = (none,
      { s with
        cmd := { s.cmd with c0 := s.params.opSrrd }, seq := .gap, cs := true,
        trace := s.trace ++ [.cs0, .tx [s.params.opSrrd], .rxFail 1, .cs1], bus := rest, draws := s.draws + 2 }) := by
  simp [frameSrrd, runFrame, callsWfR, runCalls, transfer, answer, h, csLow, csHigh, setSeq, logEvent, dropAnswer,
    latchCmd, encOp]

/-- A status read whose transmit fails (R160). -/
theorem frameSrrd_tx_fail {s : State} {m : List Byte} {rest : List BusAnswer} (h : s.bus = ⟨false, m⟩ :: rest) :
    frameSrrd s = (none,
      { s with
        cmd := { s.cmd with c0 := s.params.opSrrd }, seq := .gap, cs := true,
        trace := s.trace ++ [.cs0, .txFail [s.params.opSrrd], .cs1], bus := rest, draws := s.draws + 1 }) := by
  simp [frameSrrd, runFrame, callsWfR, runCalls, transfer, answer, h, csLow, csHigh, setSeq, logEvent, dropAnswer,
    latchCmd, encOp]

/-- An identity read whose calls succeed (R123). -/
theorem frameIdrd_ok {s : State} {b0 : List Byte} {i0 i1 i2 i3 i4 : Byte} {rest : List BusAnswer}
    (h : s.bus = ⟨true, b0⟩ :: ⟨true, [i0, i1, i2, i3, i4]⟩ :: rest) :
    frameIdrd s = (some [i0, i1, i2, i3, i4],
      { s with
        cmd := { s.cmd with c0 := s.params.opIdrd }, seq := .gap, cs := true,
        trace := s.trace ++ [.cs0, .tx [s.params.opIdrd], .rx [i0, i1, i2, i3, i4], .cs1],
        bus := rest, draws := s.draws + 2 }) := by
  simp [frameIdrd, runFrame, callsWfR, runCalls, transfer, answer, received, h, csLow, csHigh, setSeq, latchCmd, encOp,
    logEvent, dropAnswer, idBytes, List.range, List.range.loop]

/-- An identity read whose receive fails (R157). -/
theorem frameIdrd_rx_fail {s : State} {b0 m : List Byte} {rest : List BusAnswer}
    (h : s.bus = ⟨true, b0⟩ :: ⟨false, m⟩ :: rest) :
    frameIdrd s = (none,
      { s with
        cmd := { s.cmd with c0 := s.params.opIdrd }, seq := .gap, cs := true,
        trace := s.trace ++ [.cs0, .tx [s.params.opIdrd], .rxFail 5, .cs1], bus := rest, draws := s.draws + 2 }) := by
  simp [frameIdrd, runFrame, callsWfR, runCalls, transfer, answer, h, csLow, csHigh, setSeq, logEvent, dropAnswer,
    latchCmd, encOp, idBytes]

/-- An identity read whose transmit fails (R157). -/
theorem frameIdrd_tx_fail {s : State} {m : List Byte} {rest : List BusAnswer} (h : s.bus = ⟨false, m⟩ :: rest) :
    frameIdrd s = (none,
      { s with
        cmd := { s.cmd with c0 := s.params.opIdrd }, seq := .gap, cs := true,
        trace := s.trace ++ [.cs0, .txFail [s.params.opIdrd], .cs1], bus := rest, draws := s.draws + 1 }) := by
  simp [frameIdrd, runFrame, callsWfR, runCalls, transfer, answer, h, csLow, csHigh, setSeq, logEvent, dropAnswer,
    latchCmd, encOp]

/-- A page read whose calls succeed, with exactly the bytes asked for (R117). -/
theorem framePgrd_ok {a : Nat} {s : State} {b0 b1 b2 bytes : List Byte} {rest : List BusAnswer}
    (h : s.bus = ⟨true, b0⟩ :: ⟨true, b1⟩ :: ⟨true, b2⟩ :: ⟨true, bytes⟩ :: rest) :
    framePgrd a bytes.length s = (some bytes,
      { s with
        cmd := { s.cmd with c0 := s.params.opPgrd }, adr := encAddrOfOffset a, seq := .gap, cs := true,
        fb := Memory.writeBytes s.fb 0 bytes,
        trace := s.trace ++ [.cs0, .tx [s.params.opPgrd], .tx (encAddrOfOffset a).toList, .tx [0, 0, 0, 0],
          .rx bytes, .cs1],
        bus := rest, draws := s.draws + 4 }) := by
  have hr : ∀ d, (List.range bytes.length).map (fun i => bytes[i]?.getD (Config.rxByte d i)) = bytes := by
    intro d
    apply List.ext_getElem <;> simp +contextual
  simp [framePgrd, runFrame, callsWfAR, runCalls, transfer, answer, received, h, csLow, csHigh, setSeq, latchAdr, latchCmd,
    encOp, logEvent, dropAnswer, storeFb, hr]

/-- A buffer write whose calls succeed, without and with the checksum (R114). -/
theorem frameBufwr_ok {payload : List Byte} {c : Option (BitVec 16)} {s : State} {good rest : List BusAnswer}
    (h : s.bus = good ++ rest) (hl : good.length = if c.isSome then 4 else 3) (ha : ∀ x ∈ good, x.ok = true) :
    frameBufwr payload c s = (some [],
      { s with
        cmd := { s.cmd with c0 := s.params.opBufwr }, adr := ⟨0, 0, 0⟩, seq := .gap, cs := true,
        trace := s.trace ++ [.cs0, .tx [s.params.opBufwr], .tx [0, 0, 0], .tx payload] ++
          c.toList.map (fun v => .tx (crcBytes v)) ++ [.cs1],
        bus := rest, draws := s.draws + good.length }) := by
  have h0 : encAddr 0 0 = ⟨0, 0, 0⟩ := by decide
  cases c with
  | none =>
    obtain ⟨x, y, z, rfl⟩ := List.length_eq_three.mp hl
    simp_all [frameBufwr, runFrame, callsWfAD, runCalls, transfer, answer, csLow, csHigh, setSeq, latchAdr, latchCmd,
      encOp, logEvent, dropAnswer, AdrReg.toList]
  | some v =>
    match good, hl with
    | [x, y, z, w], _ =>
      simp_all [frameBufwr, runFrame, callsWfAD, runCalls, transfer, answer, csLow, csHigh, setSeq, latchAdr, latchCmd,
        encOp, logEvent, dropAnswer, AdrReg.toList]

/-- The bytes a call receives when it succeeds: as many as it asks for. -/
def Call.receives : Call → Nat
  | .tx _ => 0
  | .rx n => n

/-- Calls that all succeed receive as many bytes as they ask for together. -/
theorem runCalls_length {calls : List Call} {s : State} {bytes : List Byte} (h : (runCalls calls s).1 = some bytes) :
    bytes.length = (calls.map Call.receives).sum := by
  induction calls generalizing s bytes with
  | nil =>
    cases h
    rfl
  | cons c cs ih =>
    have hc : ∀ out S, transfer c s = (some out, S) → out.length = c.receives := by
      intro out S ht
      cases c <;> simp only [transfer] at ht <;> split at ht <;> cases ht
      · rfl
      · simp [Call.receives]
    rw [runCalls] at h
    split at h
    · cases h
    · rename_i out s1 ht
      split at h
      · cases h
      · rename_i more s2 hm
        cases h
        have := ih (s := s1) (bytes := more) (by rw [hm])
        simp [this, hc out s1 ht]

/-- A page read that succeeds receives as many bytes as it asked for (R117). -/
theorem framePgrd_length {a n : Nat} {s : State} {bytes : List Byte} (h : (framePgrd a n s).1 = some bytes) :
    bytes.length = n := by
  simp only [framePgrd] at h
  split at h
  · cases h
  · rename_i out ho
    cases h
    simpa [callsWfAR, Call.receives] using runCalls_length ho

/-- A frame of format WF-R fails, or its trace shows the bytes it received (R89, R122, R123). -/
theorem runFrame_wfR (op : List Byte) (n : Nat) (s : State) :
    (runFrame (callsWfR op n) s).1 = none ∨ ∃ bytes : List Byte, bytes.length = n ∧ ∃ bus draws,
      runFrame (callsWfR op n) s = (some bytes,
        { s with
          seq := .gap, cs := true, trace := s.trace ++ [.cs0, .tx op, .rx bytes, .cs1], bus := bus, draws := draws }) := by
  rw [callsWfR, runFrame, runCalls, transfer]
  by_cases h : (answer (csLow (setSeq .frame s))).ok = true
  · rw [if_pos h]
    simp only [runCalls, transfer]
    by_cases h' : (answer (logEvent (.tx op) (dropAnswer (csLow (setSeq .frame s))))).ok = true
    · rw [if_pos h']
      have hl := length_received (logEvent (.tx op) (dropAnswer (csLow (setSeq .frame s)))) n
      generalize received (logEvent (.tx op) (dropAnswer (csLow (setSeq .frame s)))) n = bytes at hl ⊢
      refine .inr ⟨bytes, hl, s.bus.tail.tail, s.draws + 2, ?_⟩
      simp [logEvent, dropAnswer, csLow, csHigh, setSeq]
    · exact .inl (by rw [if_neg h'])
  · exact .inl (by rw [if_neg h])

/-- A frame of format WF-AR fails, or its trace shows the bytes it received (R89, R117). -/
theorem runFrame_wfAR (op : List Byte) (a : AdrReg) (n : Nat) (s : State) :
    (runFrame (callsWfAR op a n) s).1 = none ∨ ∃ bytes : List Byte, bytes.length = n ∧ ∃ bus draws,
      runFrame (callsWfAR op a n) s = (some bytes,
        { s with
          seq := .gap, cs := true, trace := s.trace ++ [.cs0, .tx op, .tx a.toList, .tx [0, 0, 0, 0], .rx bytes, .cs1],
          bus := bus, draws := draws }) := by
  rw [callsWfAR, runFrame, runCalls, transfer]
  by_cases h1 : (answer (csLow (setSeq .frame s))).ok = true
  swap
  · exact .inl (by rw [if_neg h1])
  rw [if_pos h1]
  simp only [runCalls, transfer]
  generalize hs1 : logEvent (.tx op) (dropAnswer (csLow (setSeq .frame s))) = s1
  by_cases h2 : (answer s1).ok = true
  swap
  · exact .inl (by rw [if_neg h2])
  rw [if_pos h2]
  dsimp only
  generalize hs2 : logEvent (.tx a.toList) (dropAnswer s1) = s2
  by_cases h3 : (answer s2).ok = true
  swap
  · exact .inl (by rw [if_neg h3])
  rw [if_pos h3]
  dsimp only
  generalize hs3 : logEvent (.tx [0, 0, 0, 0]) (dropAnswer s2) = s3
  by_cases h4 : (answer s3).ok = true
  swap
  · exact .inl (by rw [if_neg h4])
  rw [if_pos h4]
  have hl := length_received s3 n
  generalize received s3 n = bytes at hl ⊢
  refine .inr ⟨bytes, hl, s3.bus.tail, s3.draws + 1, ?_⟩
  subst hs3 hs2 hs1
  simp [logEvent, dropAnswer, csLow, csHigh, setSeq]

/-! ### Latches -/

/-- Binding the bus, as one update (R23, R186 step 1). -/
theorem bindBus_eq (s : State) :
    bindBus s = { s with busBound := true, csId := if s.busBound then s.csId else s.csIdIn } := by
  cases s
  simp only [bindBus]
  split <;> simp_all

/-- The identity's latch, as one update (R21). -/
theorem latchIdentity_eq (id : Identity) (s : State) :
    latchIdentity id s = { s with identity := if s.pageCount = 0 then id else s.identity } := by
  cases s
  simp only [latchIdentity]
  split <;> simp_all

/-- The page count's latch, as one update (R22). -/
theorem latchPages_eq (part : PartPages) (s : State) :
    latchPages part s = { s with pageCount := if s.pageCount = 0 then part.pages else s.pageCount } := by
  cases s
  simp only [latchPages]
  split <;> simp_all

/-! ### Exits -/

/-- `raise` with chip select released: the status and response written, the sequencer idle (R234). -/
theorem raise_released (e : ErrorKind) {s : State} (h : s.cs = true) : raise e s =
    { s with status := e.status, seq := .idle, rspStatus := e.status, rspBusy := false, flight := none } := by
  simp [raise, h]

end Sys2Proof.Machine
end

