-- ==== Sys2Proof/Laws/Guards.lean ====
section
/-! SUPPORT. What each argument guard says, as a proposition (43_operations.md R188, R189, R198, R202, R208). -/

namespace Sys2Proof.Machine

theorem guardInit_iff (s : State) : guardInit s = true ↔ s.pageCount ≠ 0 := by
  rw [guardInit, decide_eq_true_iff]

theorem guardPolicy_iff (p : Policy) : guardPolicy p = true ↔ p ≠ .reserved := by
  rw [guardPolicy, decide_eq_true_iff]

theorem guardData_iff (crc buf : Bool) (length : BitVec 16) (address : BitVec 32) (s : State) :
    guardData crc buf length address s = true ↔
      length ≠ 0 ∧ buf = true ∧ frameLength crc length ≤ 512 ∧ address.toNat % 512 = 0 ∧
        address.toNat < s.pageCount.toNat * 512 := by
  simp only [guardData, Bool.and_eq_true, decide_eq_true_iff, and_assoc]
  exact Iff.rfl

theorem guardUnit_iff (u : Nat) (address : BitVec 32) (s : State) :
    guardUnit u address s = true ↔ address.toNat % u = 0 ∧ address.toNat + u ≤ s.pageCount.toNat * 512 := by
  simp only [guardUnit, Bool.and_eq_true, decide_eq_true_iff]
  exact Iff.rfl

theorem guardWrite_iff (policy : Policy) (crc buf : Bool) (length : BitVec 16) (address : BitVec 32) (s : State) :
    guardWrite policy crc buf length address s = true ↔
      s.pageCount ≠ 0 ∧ (length ≠ 0 ∧ buf = true ∧ frameLength crc length ≤ 512 ∧ address.toNat % 512 = 0 ∧
        address.toNat < s.pageCount.toNat * 512) ∧ policy ≠ .reserved := by
  rw [guardWrite, Bool.and_eq_true, Bool.and_eq_true, guardInit_iff, guardData_iff, guardPolicy_iff, and_assoc]

theorem guardRead_iff (crc buf : Bool) (length : BitVec 16) (address : BitVec 32) (s : State) :
    guardRead crc buf length address s = true ↔
      s.pageCount ≠ 0 ∧ (length ≠ 0 ∧ buf = true ∧ frameLength crc length ≤ 512 ∧ address.toNat % 512 = 0 ∧
        address.toNat < s.pageCount.toNat * 512) := by
  rw [guardRead, Bool.and_eq_true, guardInit_iff, guardData_iff]

theorem guardErase_iff (u : Nat) (policy : Policy) (address : BitVec 32) (s : State) :
    guardErase u policy address s = true ↔
      s.pageCount ≠ 0 ∧ (address.toNat % u = 0 ∧ address.toNat + u ≤ s.pageCount.toNat * 512) ∧
        policy ≠ .reserved := by
  rw [guardErase, Bool.and_eq_true, Bool.and_eq_true, guardInit_iff, guardUnit_iff, guardPolicy_iff, and_assoc]

theorem guardChip_iff (policy : Policy) (address : BitVec 32) (s : State) :
    guardChip policy address s = true ↔ s.pageCount ≠ 0 ∧ address = 0 ∧ policy ≠ .reserved := by
  rw [guardChip, Bool.and_eq_true, Bool.and_eq_true, guardInit_iff, guardPolicy_iff, decide_eq_true_iff, and_assoc]

end Sys2Proof.Machine
end

