-- ==== Sys2Proof/Laws/Wait.lean ====
section
/-! SUPPORT. What one pass of a wait, and a completion policy, can do, said once each: how it ends, and the state it ends
in. Callers cite these and do not unfold the loops. -/

namespace Sys2Proof.Machine

/-- One pass of BusyPoll (R162): one status frame, then at most one tick reading; nothing else of the block changes but the
opcode byte and `sr`. -/
theorem pollOnce_state (budget : Tick) (s : State) :
    ∃ (evs : List Event) (bus : List BusAnswer) (draws : Nat) (ticks : List Tick) (sr : Byte),
      (∀ trace, WellFramed trace → WellFramed (trace ++ evs)) ∧
      (pollOnce budget s).2 =
        { latchCmd (encOp s.params .statusRead) s with
          seq := .gap, cs := true, trace := s.trace ++ evs, bus := bus, draws := draws, ticks := ticks, sr := sr } ∧
      ((pollOnce budget s).1 = .done → deviceBusy s.params sr = false) ∧
      ((pollOnce budget s).1 = .again → deviceBusy s.params sr = true) ∧
      ((pollOnce budget s).1 = .xferFail → sr = s.sr) := by
  obtain ⟨evs, hev, bus, draws, sr, hf, hsr⟩ := frameSrrd_state s
  rcases hr : (frameSrrd s).1 with _ | bytes
  · have e : pollOnce budget s = (.xferFail, (frameSrrd s).2) := by simp [pollOnce, hr]
    refine ⟨.cs0 :: evs ++ [.cs1], bus, draws, s.ticks, sr, fun _ h => wellFramed_append_frame h hev, ?_, ?_, ?_, ?_⟩
    · rw [e]
      exact hf
    · simp [e]
    · simp [e]
    · exact fun _ => hsr hr
  · have hp : (frameSrrd s).2.params = s.params := by rw [hf]; rfl
    have hs : (frameSrrd s).2.sr = sr := by rw [hf]
    by_cases hb : deviceBusy s.params sr = true
    · have e : ∃ r, r ≠ .done ∧ r ≠ .xferFail ∧ pollOnce budget s = (r, readTick (frameSrrd s).2) := by
        simp only [pollOnce, hr, hp, hs, hb, if_true]
        split
        · exact ⟨_, by simp, by simp, rfl⟩
        · exact ⟨_, by simp, by simp, rfl⟩
      obtain ⟨r, h1, h2, e⟩ := e
      refine ⟨.cs0 :: evs ++ [.cs1] ++ [.tick (nextTick (frameSrrd s).2)], bus, draws + 1, s.ticks.tail, sr,
        fun tr h => ?_, ?_, ?_, ?_, ?_⟩
      · rw [← List.append_assoc]
        exact wellFramed_append_tick (wellFramed_append_frame h hev) _
      · rw [e, hf]
        simp [readTick]
      · rw [e]
        exact fun h => absurd h h1
      · exact fun _ => hb
      · rw [e]
        exact fun h => absurd h h2
    · have e : pollOnce budget s = (.done, (frameSrrd s).2) := by simp [pollOnce, hr, hp, hs, hb]
      refine ⟨.cs0 :: evs ++ [.cs1], bus, draws, s.ticks, sr, fun _ h => wellFramed_append_frame h hev, ?_, ?_, ?_, ?_⟩
      · rw [e]
        exact hf
      · exact fun _ => by simpa using hb
      · simp [e]
      · simp [e]

/-- One pass of a completion poll (R165): it ends in Ready, in ErrorTimeout, or goes round again. -/
theorem completePoll_cases (budget : Tick) (s : State) :
    completePoll budget s = returnReady (pollOnce budget s).2 ∨
      completePoll budget s = raise .timeout (pollOnce budget s).2 ∨
      completePoll budget s = park (.poll budget) (pollOnce budget s).2 := by
  simp only [completePoll]
  split
  · exact .inl rfl
  · exact .inr (.inl rfl)
  · exact .inr (.inl rfl)
  · exact .inr (.inr rfl)

/-- One pass of a completion delay (R164, R165): it ends in Ready or goes round again, after one tick reading. -/
theorem completeDelay_cases (ticks : Tick) (s : State) :
    (ticks ≤ elapsed s.t0 (nextTick s) ∧ completeDelay ticks s = returnReady (readTick s)) ∨
      (elapsed s.t0 (nextTick s) < ticks ∧ completeDelay ticks s = park (.delay ticks) (readTick s)) := by
  unfold completeDelay delayOnce
  by_cases h : ticks ≤ elapsed s.t0 (nextTick s)
  · exact .inl ⟨h, by simp [h]⟩
  · exact .inr ⟨by simpa using h, by simp [h]⟩

/-- What a completion policy can do (R165). -/
theorem complete_cases (policy : Policy) (t : Tick) (s : State) :
    (policy = .noWait ∧ complete policy t s = returnReady s) ∨
      (policy = .fixedDelay ∧ complete policy t s = completeDelay t (startWait s)) ∨
      (policy = .busyPoll ∧ complete policy t s = completePoll t (startWait s)) ∨
      (policy = .reserved ∧ complete policy t s = raise .argument s) := by
  cases policy
  · exact .inl ⟨rfl, rfl⟩
  · exact .inr (.inl ⟨rfl, rfl⟩)
  · exact .inr (.inr (.inl ⟨rfl, rfl⟩))
  · exact .inr (.inr (.inr ⟨rfl, rfl⟩))

end Sys2Proof.Machine
end

