-- ==== Sys2Proof/Laws/Admitted.lean ====
section
/-! SUPPORT. What a WRITE or an ERASE whose guards pass does up to its completion policy, said once for all five: one
equation when every transfer of its frames succeeds. And what a frame does when a call after some transmits fails. -/

namespace Sys2Proof.Machine

/-- Calls that begin with transmits which succeed, and then fail (R157). -/
theorem runCalls_tx_fail (pre : List (List Byte)) (c : Call) (post : List Call) {s : State} {good rest : List BusAnswer}
    {b : List Byte} (hb : s.bus = good ++ ⟨false, b⟩ :: rest) (hl : good.length = pre.length)
    (ha : ∀ x ∈ good, x.ok = true) :
    runCalls (pre.map Call.tx ++ c :: post) s = (none,
      { s with
        trace := s.trace ++ pre.map Event.tx ++ [c.failEvent], bus := rest, draws := s.draws + good.length + 1 }) := by
  induction pre generalizing s good with
  | nil =>
    obtain rfl := List.length_eq_zero_iff.mp hl
    rw [List.nil_append] at hb
    cases c <;> simp [runCalls, transfer, answer, hb, logEvent, dropAnswer, Call.failEvent]
  | cons d pre ih =>
    match good, hl with
    | ⟨o, x⟩ :: good, hl =>
      obtain rfl : o = true := ha ⟨o, x⟩ List.mem_cons_self
      rw [List.map_cons, List.cons_append, runCalls, transfer_tx_ok (rest := good ++ ⟨false, b⟩ :: rest) (by exact hb)]
      simp only
      rw [ih (s := logEvent (.tx d) (dropAnswer s)) (good := good) (by simp [logEvent, dropAnswer, hb])
        (Nat.succ.inj hl) (fun y hy => ha y (List.mem_cons_of_mem _ hy))]
      simp [logEvent, dropAnswer]
      omega

/-- A frame that fails after some transmits makes no later call and closes its scope (R156, R157). -/
theorem runFrame_tx_fail (pre : List (List Byte)) (c : Call) (post : List Call) {s : State} {good rest : List BusAnswer}
    {b : List Byte} (hb : s.bus = good ++ ⟨false, b⟩ :: rest) (hl : good.length = pre.length)
    (ha : ∀ x ∈ good, x.ok = true) :
    runFrame (pre.map Call.tx ++ c :: post) s = (none,
      { s with
        seq := .gap, cs := true, trace := s.trace ++ (.cs0 :: pre.map Event.tx ++ [c.failEvent, .cs1]), bus := rest,
        draws := s.draws + good.length + 1 }) := by
  rw [runFrame, runCalls_tx_fail pre c post (s := csLow (setSeq .frame s)) hb hl ha]
  simp [csLow, csHigh, setSeq]

/-- An addressed erase whose guards and two transfers succeed goes on to its completion policy (R198). -/
theorem eraseUnit_ok {u : Nat} {op : LogicalOp} {opc : Byte} {t : Tick} {policy : Policy} {address : BitVec 32} {s : State}
    {good rest : List BusAnswer} (hg : guardErase u policy address (startOperation .busyErase s) = true)
    (ho : encOp s.params op = [opc]) (hb : s.bus = good ++ rest) (hl : good.length = 2) (ha : ∀ x ∈ good, x.ok = true) :
    eraseUnit u op t policy address s = complete policy t
      { s with
        status := .busyErase, cmd := { s.cmd with c0 := opc }, adr := encAddrOfOffset address.toNat, seq := .gap, cs := true,
        trace := s.trace ++ [.cs0, .tx [opc], .tx (encAddrOfOffset address.toNat).toList, .cs1], bus := rest,
        draws := s.draws + 2 } := by
  match good, hl with
  | [⟨o0, b0⟩, ⟨o1, b1⟩], _ =>
    simp only [List.mem_cons, List.not_mem_nil, or_false, forall_eq_or_imp, forall_eq] at ha
    obtain ⟨rfl, rfl⟩ := ha
    simp only [eraseUnit, hg, if_true]
    rw [frameAddressed_ok (s := startOperation .busyErase s) (b0 := b0) (b1 := b1) (rest := rest) (by exact hb)]
    simp [startOperation, latchAdr, latchCmd, ho]

/-- A WRITE or an ERASE whose guards pass and whose transfers succeed sends its frames and goes on to its completion policy
with its own time constant (R190, R198, R202). -/
theorem exec_of_admitted {s latched : State} {policy : Policy} {i : Instr} {time : Tick} {frames : List (List (List Byte))}
    {good rest : List BusAnswer} (h : Admitted s policy i time frames latched) (hb : s.bus = good ++ rest)
    (hl : good.length = frames.flatten.length) (ha : ∀ x ∈ good, x.ok = true) :
    exec i s = .next (complete policy time
      { latched with
        seq := .gap, cs := true, trace := s.trace ++ scopesOf frames, bus := rest, draws := s.draws + good.length }) := by
  cases h with
  | write crc ebw length address valid nonempty fits aligned bound =>
    have hg : guardWrite policy crc true length address (startOperation .busyWrite s) = true := by
      rw [guardWrite_iff]
      refine ⟨?_, ⟨nonempty, rfl, fits, aligned, bound⟩, valid⟩
      intro h0
      have : s.pageCount = 0 := h0
      simp [this] at bound
    have hh : hostBytes (startOperation .busyWrite s) length.toNat = hostBytes s length.toNat := rfl
    simp only [exec, execWrite, opWrite, hg, if_true, writeFrames, hh]
    have hlen : good.length = (if crc then 4 else 3) + 2 := by
      rw [hl]
      cases crc <;> rfl
    have hsplit : good = good.take (if crc then 4 else 3) ++ good.drop (if crc then 4 else 3) :=
      (List.take_append_drop _ _).symm
    rw [frameBufwr_ok (good := good.take (if crc then 4 else 3)) (rest := good.drop (if crc then 4 else 3) ++ rest)
      (by rw [← List.append_assoc, ← hsplit]; cases crc <;> exact hb)
      (by cases crc <;> simp [writeChecksum, hlen])
      (fun x hx => ha x (List.mem_of_mem_take hx))]
    have hd2 : (good.drop (if crc then 4 else 3)).length = 2 := by simp [hlen]
    have had : ∀ x ∈ good.drop (if crc then 4 else 3), x.ok = true := fun x hx => ha x (List.mem_of_mem_drop hx)
    generalize good.drop (if crc then 4 else 3) = tail at hd2 had
    match tail, hd2 with
    | [⟨o0, b0⟩, ⟨o1, b1⟩], _ =>
      simp only [List.mem_cons, List.not_mem_nil, or_false, forall_eq_or_imp, forall_eq] at had
      obtain ⟨rfl, rfl⟩ := had
      simp only [writeProgram]
      rw [frameAddressed_ok (b0 := b0) (b1 := b1) (rest := rest) rfl]
      cases crc <;> cases ebw <;>
        simp [startOperation, latchAdr, latchCmd, latchChecksum, writeChecksum, setCrc, programOp, programTime, encOp,
          scopesOf, hlen]
  | erasePage address valid init aligned bound =>
    simp only [exec, execErasePage]
    rw [eraseUnit_ok (opc := s.params.opPger) ((guardErase_iff _ _ _ _).2 ⟨init, ⟨aligned, bound⟩, valid⟩) rfl hb hl ha]
    simp [scopesOf, show good.length = 2 from hl]
  | eraseBlock address valid init aligned bound =>
    simp only [exec, execEraseBlock]
    rw [eraseUnit_ok (u := blockBytes) (opc := s.params.opBlker) ((guardErase_iff _ _ _ _).2 ⟨init, ⟨aligned, bound⟩, valid⟩) rfl hb hl ha]
    simp [scopesOf, show good.length = 2 from hl]
  | eraseSector address valid init aligned bound =>
    simp only [exec, execEraseSector]
    rw [eraseUnit_ok (u := sectorBytes) (opc := s.params.opSecer) ((guardErase_iff _ _ _ _).2 ⟨init, ⟨aligned, bound⟩, valid⟩) rfl hb hl ha]
    simp [scopesOf, show good.length = 2 from hl]
  | eraseChip valid init =>
    have hg : guardChip policy 0 (startOperation .busyErase s) = true := (guardChip_iff _ _ _).2 ⟨init, rfl, valid⟩
    match good, hl with
    | [⟨o0, b0⟩], _ =>
      simp only [List.mem_cons, List.not_mem_nil, or_false, forall_eq] at ha
      obtain rfl := ha
      simp only [exec, execEraseChip, opEraseChip, hg, if_true]
      rw [frameSequence_ok (s := startOperation .busyErase s) (b0 := b0) (rest := rest) (by exact hb)]
      simp [startOperation, latchCmd, encOp, scopesOf, Bytes4.toList]

end Sys2Proof.Machine
end

