-- ==== Sys2Proof/Laws/Encoding.lean ====
section
/-! SUPPORT. Encodings: the fields of an assembled request word, of the address bytes and of the checksum bytes read
back what was put in; the masks of the opcode table in terms of the fields. -/

namespace Sys2Proof

/-- Concatenation as a sum. -/
theorem toNat_append_eq_add {m n : Nat} (x : BitVec m) (y : BitVec n) :
    (x ++ y).toNat = x.toNat * 2 ^ n + y.toNat := by
  rw [BitVec.toNat_append, ← Nat.shiftLeft_add_eq_or_of_lt y.isLt, Nat.shiftLeft_eq]

/-- A bit slice as quotient and remainder. -/
theorem toNat_slice {n : Nat} (w : BitVec n) (s l : Nat) :
    (w.extractLsb' s l).toNat = w.toNat / 2 ^ s % 2 ^ l := by
  simp [BitVec.extractLsb'_toNat, Nat.shiftRight_eq_div_pow]

/-- A bit as quotient and remainder. -/
theorem getLsbD_eq_div_mod {n : Nat} (w : BitVec n) (i : Nat) :
    w.getLsbD i = decide (w.toNat / 2 ^ i % 2 = 1) := by
  rw [BitVec.getLsbD, Nat.testBit_eq_decide_div_mod_eq]

section RequestWord
variable (op gran : BitVec 3) (p : BitVec 2) (crc ebw buf : Bool) (len : BitVec 16) (a : BitVec 32)

/-- The value of a request word (R82). -/
theorem toNat_requestWord : (requestWord op gran p crc ebw buf len a).toNat =
    op.toNat * 2 ^ 61 + gran.toNat * 2 ^ 58 + p.toNat * 2 ^ 56 + crc.toNat * 2 ^ 55 + ebw.toNat * 2 ^ 54
      + buf.toNat * 2 ^ 53 + len.toNat * 2 ^ 32 + a.toNat := by
  simp only [requestWord, toNat_append_eq_add, BitVec.toNat_ofBool, BitVec.toNat_ofNat]
  omega

/-- The ranges of the fields, for `omega`. -/
theorem requestWord_ranges : op.toNat < 2 ^ 3 ∧ gran.toNat < 2 ^ 3 ∧ p.toNat < 2 ^ 2 ∧ crc.toNat < 2 ∧
    ebw.toNat < 2 ∧ buf.toNat < 2 ∧ len.toNat < 2 ^ 16 ∧ a.toNat < 2 ^ 32 :=
  ⟨op.isLt, gran.isLt, p.isLt, crc.toNat_lt, ebw.toNat_lt, buf.toNat_lt, len.isLt, a.isLt⟩

@[simp] theorem reqOp_requestWord : reqOp (requestWord op gran p crc ebw buf len a) = op := by
  apply BitVec.eq_of_toNat_eq
  rw [reqOp, toNat_slice, toNat_requestWord]
  have := requestWord_ranges op gran p crc ebw buf len a
  omega

@[simp] theorem reqGran_requestWord : reqGran (requestWord op gran p crc ebw buf len a) = gran := by
  apply BitVec.eq_of_toNat_eq
  rw [reqGran, toNat_slice, toNat_requestWord]
  have := requestWord_ranges op gran p crc ebw buf len a
  omega

@[simp] theorem reqPolicyBits_requestWord : reqPolicyBits (requestWord op gran p crc ebw buf len a) = p := by
  apply BitVec.eq_of_toNat_eq
  rw [reqPolicyBits, toNat_slice, toNat_requestWord]
  have := requestWord_ranges op gran p crc ebw buf len a
  omega

@[simp] theorem reqLength_requestWord : reqLength (requestWord op gran p crc ebw buf len a) = len := by
  apply BitVec.eq_of_toNat_eq
  rw [reqLength, toNat_slice, toNat_requestWord]
  have := requestWord_ranges op gran p crc ebw buf len a
  omega

@[simp] theorem reqAddress_requestWord : reqAddress (requestWord op gran p crc ebw buf len a) = a := by
  apply BitVec.eq_of_toNat_eq
  rw [reqAddress, toNat_slice, toNat_requestWord]
  have := requestWord_ranges op gran p crc ebw buf len a
  omega

@[simp] theorem reqCrc_requestWord : reqCrc (requestWord op gran p crc ebw buf len a) = crc := by
  rw [reqCrc, getLsbD_eq_div_mod, toNat_requestWord]
  have := requestWord_ranges op gran p crc ebw buf len a
  cases crc <;> simp <;> omega

@[simp] theorem reqEbw_requestWord : reqEbw (requestWord op gran p crc ebw buf len a) = ebw := by
  rw [reqEbw, getLsbD_eq_div_mod, toNat_requestWord]
  have := requestWord_ranges op gran p crc ebw buf len a
  cases ebw <;> simp <;> omega

@[simp] theorem reqBuf_requestWord : reqBuf (requestWord op gran p crc ebw buf len a) = buf := by
  rw [reqBuf, getLsbD_eq_div_mod, toNat_requestWord]
  have := requestWord_ranges op gran p crc ebw buf len a
  cases buf <;> simp <;> omega

end RequestWord

@[simp] theorem policyOfBits_policyBits (p : Policy) : policyOfBits (policyBits p) = p := by cases p <;> rfl

/-- The lowest bit of the operation selector is bit 61 of the word (R82). -/
theorem getLsbD_61_eq (w : BitVec 64) : w.getLsbD 61 = (reqOp w).getLsbD 0 := by
  rw [getLsbD_eq_div_mod, getLsbD_eq_div_mod, reqOp, toNat_slice]
  congr 2
  omega

/-! ### Masks of the opcode table -/

theorem and_mask_top3 (w : BitVec 64) : w &&& 0xE000000000000000#64 = (w >>> 61) <<< 61 := by
  apply BitVec.eq_of_getLsbD_eq
  intro i hi
  interval_cases i <;> simp

theorem and_mask_top6 (w : BitVec 64) : w &&& 0xFC00000000000000#64 = (w >>> 58) <<< 58 := by
  apply BitVec.eq_of_getLsbD_eq
  intro i hi
  interval_cases i <;> simp

theorem and_mask_top4 (w : BitVec 64) : w &&& 0xF000000000000000#64 = (w >>> 60) <<< 60 := by
  apply BitVec.eq_of_getLsbD_eq
  intro i hi
  interval_cases i <;> simp

theorem and_mask_top2 (w : BitVec 64) : w &&& 0xC000000000000000#64 = (w >>> 62) <<< 62 := by
  apply BitVec.eq_of_getLsbD_eq
  intro i hi
  interval_cases i <;> simp

/-- The top bits of a word kept in place, as quotient and product. -/
theorem toNat_keepTop (w : BitVec 64) (n : Nat) :
    ((w >>> n) <<< n).toNat = w.toNat / 2 ^ n * 2 ^ n := by
  have h : w.toNat / 2 ^ n * 2 ^ n < 2 ^ 64 := lt_of_le_of_lt (Nat.div_mul_le_self _ _) w.isLt
  simp only [BitVec.toNat_shiftLeft, BitVec.toNat_ushiftRight, Nat.shiftRight_eq_div_pow, Nat.shiftLeft_eq]
  exact Nat.mod_eq_of_lt h

/-! ### Address and checksum bytes -/

@[simp] theorem addressOf_slices (a : BitVec 24) :
    addressOf (a.extractLsb' 16 8) (a.extractLsb' 8 8) (a.extractLsb' 0 8) = a := by
  apply BitVec.eq_of_toNat_eq
  have := a.isLt
  simp only [addressOf, toNat_append_eq_add, toNat_slice]
  omega

@[simp] theorem crcBytes_append (c : BitVec 16) : c.extractLsb' 8 8 ++ c.extractLsb' 0 8 = c := by
  apply BitVec.eq_of_toNat_eq
  have := c.isLt
  simp only [toNat_append_eq_add, toNat_slice]
  omega

@[simp] theorem length_addressBytes (a : BitVec 24) : (addressBytes a).length = 3 := rfl

@[simp] theorem length_crcBytes (c : BitVec 16) : (crcBytes c).length = 2 := rfl

end Sys2Proof
end

