-- ==== Sys2Proof/Laws/PerInstr.lean ====
section
/-! SUPPORT. Families of lemmas with one lemma per instruction. TableRow: the code of an instruction is a word of the
instruction's own row of spec/opcode_table.json. -/

namespace Sys2Proof.Laws.TableRow

/-- A code lies in the row of a mnemonic: under the row's mask for a request, by the row's first bytes for a frame. -/
def InRow (name : String) : Code → Prop
  | .request w => ∃ row ∈ requestRows, row.name = name ∧ w &&& row.mask = row.value
  | .frame _ bytes => ∃ row ∈ wireRows, row.1 = name ∧ row.2 <+: bytes

/-- A well-formed instruction's code lies in its own row. -/
def Statement (i : Instr) : Prop := WellFormed i → InRow i.mnemonic (encode i)

/-- A request word whose top three bits are given lies in a row of three fixed bits. -/
theorem masked_top3 (op gran : BitVec 3) (p : BitVec 2) (crc ebw buf : Bool) (len : BitVec 16) (a : BitVec 32) :
    (requestWord op gran p crc ebw buf len a &&& 0xE000000000000000#64).toNat = op.toNat * 2 ^ 61 := by
  rw [and_mask_top3, toNat_keepTop, toNat_requestWord]
  have := requestWord_ranges op gran p crc ebw buf len a
  omega

/-- A request word whose top six bits are given lies in a row of six fixed bits. -/
theorem masked_top6 (op gran : BitVec 3) (p : BitVec 2) (crc ebw buf : Bool) (len : BitVec 16) (a : BitVec 32) :
    (requestWord op gran p crc ebw buf len a &&& 0xFC00000000000000#64).toNat =
      op.toNat * 2 ^ 61 + gran.toNat * 2 ^ 58 := by
  rw [and_mask_top6, toNat_keepTop, toNat_requestWord]
  have := requestWord_ranges op gran p crc ebw buf len a
  omega

/-- A request word under the mask of four bits. -/
theorem masked_top4 (op gran : BitVec 3) (p : BitVec 2) (crc ebw buf : Bool) (len : BitVec 16) (a : BitVec 32) :
    (requestWord op gran p crc ebw buf len a &&& 0xF000000000000000#64).toNat =
      op.toNat * 2 ^ 61 + gran.toNat / 4 * 2 ^ 60 := by
  rw [and_mask_top4, toNat_keepTop, toNat_requestWord]
  have := requestWord_ranges op gran p crc ebw buf len a
  omega

/-- A request word under the mask of two bits. -/
theorem masked_top2 (op gran : BitVec 3) (p : BitVec 2) (crc ebw buf : Bool) (len : BitVec 16) (a : BitVec 32) :
    (requestWord op gran p crc ebw buf len a &&& 0xC000000000000000#64).toNat = op.toNat / 2 * 2 ^ 62 := by
  rw [and_mask_top2, toNat_keepTop, toNat_requestWord]
  have := requestWord_ranges op gran p crc ebw buf len a
  omega

/-- A word in the row number `k` of the request rows. -/
theorem inRow_request (k : Nat) (hk : k < requestRows.length) (w : BitVec 64)
    (h : (w &&& (requestRows[k]).mask).toNat = (requestRows[k]).value.toNat) :
    InRow (requestRows[k]).name (.request w) :=
  ⟨requestRows[k], List.getElem_mem hk, rfl, BitVec.eq_of_toNat_eq h⟩

/-- A frame in the row number `k` of the wire rows. -/
theorem inRow_frame (k : Nat) (hk : k < wireRows.length) (crc : Bool) (bytes : List Byte)
    (h : (wireRows[k]).2 <+: bytes) : InRow (wireRows[k]).1 (.frame crc bytes) :=
  ⟨wireRows[k], List.getElem_mem hk, rfl, h⟩

theorem bufwr (payload : List Byte) (c : Option (BitVec 16)) : Statement (.bufwr payload c) :=
  fun _ => inRow_frame 0 (by decide) _ _ ⟨_, rfl⟩
theorem progE (a : BitVec 24) : Statement (.progE a) := fun _ => inRow_frame 1 (by decide) _ _ ⟨_, rfl⟩
theorem progNe (a : BitVec 24) : Statement (.progNe a) := fun _ => inRow_frame 2 (by decide) _ _ ⟨_, rfl⟩
theorem pgrd (a : BitVec 24) (n : Nat) : Statement (.pgrd a n) := fun _ => inRow_frame 3 (by decide) _ _ ⟨_, rfl⟩
theorem pger (a : BitVec 24) : Statement (.pger a) := fun _ => inRow_frame 4 (by decide) _ _ ⟨_, rfl⟩
theorem blker (a : BitVec 24) : Statement (.blker a) := fun _ => inRow_frame 5 (by decide) _ _ ⟨_, rfl⟩
theorem secer (a : BitVec 24) : Statement (.secer a) := fun _ => inRow_frame 6 (by decide) _ _ ⟨_, rfl⟩
theorem chiper : Statement .chiper := fun _ => inRow_frame 7 (by decide) _ _ ⟨_, rfl⟩
theorem srrd : Statement .srrd := fun _ => inRow_frame 8 (by decide) _ _ ⟨_, rfl⟩
theorem idrd : Statement .idrd := fun _ => inRow_frame 9 (by decide) _ _ ⟨_, rfl⟩
theorem pscfg : Statement .pscfg := fun _ => inRow_frame 10 (by decide) _ _ ⟨_, rfl⟩
theorem init : Statement .init := fun _ => inRow_request 0 (by decide) _ (masked_top3 ..)
theorem write (p : Policy) (crc ebw buf : Bool) (len : BitVec 16) (a : BitVec 32) :
    Statement (.write p crc ebw buf len a) := fun _ => inRow_request 1 (by decide) _ (masked_top3 ..)
theorem read (crc buf : Bool) (len : BitVec 16) (a : BitVec 32) : Statement (.read crc buf len a) :=
  fun _ => inRow_request 2 (by decide) _ (masked_top3 ..)
theorem erasePage (p : Policy) (a : BitVec 32) : Statement (.erasePage p a) :=
  fun _ => inRow_request 3 (by decide) _ (masked_top6 ..)
theorem eraseBlock (p : Policy) (a : BitVec 32) : Statement (.eraseBlock p a) :=
  fun _ => inRow_request 4 (by decide) _ (masked_top6 ..)
theorem eraseSector (p : Policy) (a : BitVec 32) : Statement (.eraseSector p a) :=
  fun _ => inRow_request 5 (by decide) _ (masked_top6 ..)
theorem eraseChip (p : Policy) (a : BitVec 32) : Statement (.eraseChip p a) :=
  fun _ => inRow_request 6 (by decide) _ (masked_top6 ..)
theorem eraseUnrecognised (g : BitVec 3) : Statement (.eraseUnrecognised g) := by
  intro hg
  refine inRow_request 7 (by decide) _ ((masked_top4 ..).trans ?_)
  have h4 : 4 ≤ g.toNat := of_decide_eq_true hg
  have h8 := g.isLt
  have hq : g.toNat / 4 = 1 := by omega
  rw [hq]
  rfl
theorem isBusy : Statement .isBusy := fun _ => inRow_request 8 (by decide) _ (masked_top3 ..)
theorem reserved5 : Statement .reserved5 := fun _ => inRow_request 9 (by decide) _ (masked_top3 ..)
theorem reserved67 (low : Bool) : Statement (.reserved67 low) := by
  intro _
  refine inRow_request 10 (by decide) _ ((masked_top2 ..).trans ?_)
  cases low <;> rfl

end Sys2Proof.Laws.TableRow
end

