-- ==== Sys2Proof/Laws/Wire.lean ====
section
/-! SUPPORT. The two things a wire command presented by itself can do (log 4): run its frame, or be turned away. -/

namespace Sys2Proof.Machine

theorem guardWire_iff (s : State) : guardWire s = true ↔ s.pageCount ≠ 0 ∧ s.busBound = true := by
  rw [guardWire, Bool.and_eq_true, guardInit_iff]

theorem guardWireUnit_iff (u : Nat) (address : BitVec 24) (s : State) : guardWireUnit u address s = true ↔
    (s.pageCount ≠ 0 ∧ s.busBound = true) ∧ address.toNat % u = 0 ∧ address.toNat + u ≤ s.pageCount.toNat * 512 := by
  have h : (address.setWidth 32).toNat = address.toNat := by simp; omega
  rw [guardWireUnit, Bool.and_eq_true, guardWire_iff, guardUnit_iff, h]

/-- With its guard true the frame runs, and the sequencer is idle again. -/
theorem standAlone_runs {guard : Bool} (frame : State → Option (List Byte) × State) (s : State) (h : guard = true) :
    standAlone guard frame s = .next (setSeq .idle (frame s).2) := by
  rw [standAlone, if_pos h]

/-- Otherwise it is ErrorArgument with no bus event, whatever the frame (R264, D19, R54, R55). -/
theorem standAlone_rejected {guard : Bool} (frame : State → Option (List Byte) × State) {s : State} (h : guard ≠ true)
    (hc : s.cs = true) : standAlone guard frame s = .next (ended .errorArgument s) := by
  rw [standAlone, if_neg h, raise_released _ hc]
  rfl

end Sys2Proof.Machine
end

