-- ==== Sys2Proof/Tests/Slice0.lean ====
section
/-! SUPPORT. Tests of single steps on small states. Expected values are the spec's: the words of 30_encoding.md R96 and
95_test_vectors.md 3.1, the vectors of 3.2 to 3.7 and the programs P1 to P6, under its section 1 parameters. -/

namespace Sys2Proof.Tests

open Sys2Proof.Machine

/-! ### Helpers -/

/-- A transfer that succeeds and returns these bytes. -/
def ok (bytes : List Byte) : BusAnswer := ⟨true, bytes⟩
/-- A transfer that fails. -/
def bad : BusAnswer := ⟨false, []⟩

/-- The reset state under the parameters, straps and grant of 95_test_vectors.md section 1. -/
def base : State :=
  { State.reset with params := Params.r9, busOk := true, csIdIn := 1, frameGrant := true }

/-- After a successful INIT (P2 step 1). -/
def inited : State :=
  { base with identity := ⟨0x1F, 0x26, 0x00, 0x01, 0x00⟩, pageCount := 4096, busBound := true, csId := 1, status := .ready }

/-- `inited` with answers and ticks to come. -/
def withEnv (bus : List BusAnswer) (ticks : List Tick) (s : State) : State := { s with bus := bus, ticks := ticks }

/-- The outcome is a next state of which `p` holds. -/
def check (o : Host.Outcome State Fault Refusal) (p : State → Bool) : Bool :=
  match o with
  | .next t => p t
  | .fault _ => false
  | .refused _ => false

/-- The outcome is this fault. -/
def faults (o : Host.Outcome State Fault Refusal) (f : Fault) : Bool :=
  match o with
  | .next _ => false
  | .fault g => decide (f = g)
  | .refused _ => false

/-- The ok of a decoding, if it is one. -/
def decoded (c : Code) : Option Instr :=
  match decode c with
  | .ok i => some i
  | .error _ => none

/-! ### WellFormed refuses -/

theorem test_wf_bufwr_empty : ¬WellFormed (.bufwr [] none) := by decide
theorem test_wf_bufwr_511_with_checksum : ¬WellFormed (.bufwr (List.replicate 511 0) (some 0)) := by decide +kernel
theorem test_wf_progE_unaligned : ¬WellFormed (.progE 0x000601) := by decide
theorem test_wf_progNe_unaligned : ¬WellFormed (.progNe 0x0001FF) := by decide
theorem test_wf_pgrd_513 : ¬WellFormed (.pgrd 0x000600 513) := by decide
theorem test_wf_pgrd_unaligned : ¬WellFormed (.pgrd 0x000001 4) := by decide
theorem test_wf_pger_unaligned : ¬WellFormed (.pger 0x000201) := by decide
theorem test_wf_blker_page_aligned : ¬WellFormed (.blker 0x000200) := by decide
theorem test_wf_secer_block_aligned : ¬WellFormed (.secer 0x001000) := by decide
theorem test_wf_selector_recognised : ¬WellFormed (.eraseUnrecognised 3) := by decide

/-! ### Decoding: words written out from the encoding -/

-- frame bytes: R89, R114 to R124, 95_test_vectors.md 3.4
theorem test_decode_bufwr : decoded (.frame false [0x84, 0, 0, 0, 0xAA, 0x55]) = some (.bufwr [0xAA, 0x55] none) := by
  decide
theorem test_decode_bufwr_checksum : decoded (.frame true [0x84, 0, 0, 0, 0xDE, 0xAD, 0xBE, 0xEF, 0xC1, 0x9B]) =
    some (.bufwr [0xDE, 0xAD, 0xBE, 0xEF] (some 0xC19B)) := by decide
theorem test_decode_progE : decoded (.frame false [0x83, 0x00, 0x06, 0x00]) = some (.progE 0x000600) := by decide
theorem test_decode_progNe : decoded (.frame false [0x88, 0x00, 0x04, 0x00]) = some (.progNe 0x000400) := by decide
theorem test_decode_pgrd : decoded (.frame false [0xD2, 0x00, 0x06, 0x00, 0, 0, 0, 0, 1, 2, 3, 4, 5, 6]) =
    some (.pgrd 0x000600 6) := by decide
theorem test_decode_pger : decoded (.frame false [0x81, 0x00, 0x02, 0x00]) = some (.pger 0x000200) := by decide
theorem test_decode_blker : decoded (.frame false [0x50, 0x1F, 0xF0, 0x00]) = some (.blker 0x1FF000) := by decide
theorem test_decode_secer : decoded (.frame false [0x7C, 0x02, 0x00, 0x00]) = some (.secer 0x020000) := by decide
theorem test_decode_chiper : decoded (.frame false [0xC7, 0x94, 0x80, 0x9A]) = some .chiper := by decide
theorem test_decode_srrd : decoded (.frame false [0xD7, 0xFF]) = some .srrd := by decide
theorem test_decode_idrd : decoded (.frame false [0x9F, 1, 2, 3, 4, 5]) = some .idrd := by decide
theorem test_decode_pscfg : decoded (.frame false [0x3D, 0x2A, 0x80, 0xA6]) = some .pscfg := by decide
theorem test_decode_no_row : decode (.frame false [0x00]) = .error (.unknownOpcode 0) := by decide
theorem test_decode_unaligned : decode (.frame false [0x50, 0x00, 0x02, 0x00]) = .error (.badOperand "BLKER") := by
  decide
-- request words: R96 and 95_test_vectors.md 3.1
theorem test_decode_init : decoded (.request 0x0000000000000000) = some .init := by decide
theorem test_decode_write : decoded (.request 0x22E0000400000600) =
    some (.write .busyPoll true true true 4 0x600) := by decide
theorem test_decode_write_ignored : decoded (.request 0x3C7F000100000000) =
    some (.write .noWait false true true 1 0) := by decide
theorem test_decode_read : decoded (.request 0x40A0000400000600) = some (.read true true 4 0x600) := by decide
theorem test_decode_erasePage : decoded (.request 0x6100000000000200) = some (.erasePage .fixedDelay 0x200) := by decide
theorem test_decode_eraseBlock : decoded (.request 0x6400000000001000) = some (.eraseBlock .noWait 0x1000) := by decide
theorem test_decode_eraseSector : decoded (.request 0x6A00000000020000) = some (.eraseSector .busyPoll 0x20000) := by
  decide
theorem test_decode_eraseChip : decoded (.request 0x6E00000000000000) = some (.eraseChip .busyPoll 0) := by decide
theorem test_decode_eraseUnrecognised : decoded (.request 0x7F00000000000001) = some (.eraseUnrecognised 7) := by decide
theorem test_decode_isBusy : decoded (.request 0x9FFFFFFFFFFFFFFF) = some .isBusy := by decide
theorem test_decode_reserved5 : decoded (.request 0xA000000000000000) = some .reserved5 := by decide
theorem test_decode_reserved67 : decoded (.request 0xFFFFFFFFFFFFFFFF) = some (.reserved67 true) := by decide
-- the opcode table's own words
theorem test_table_wire : [decodeTableWord 8 0x84, decodeTableWord 8 0x83, decodeTableWord 8 0x88, decodeTableWord 8 0xD2,
    decodeTableWord 8 0x81, decodeTableWord 8 0x50, decodeTableWord 8 0x7C, decodeTableWord 32 0xC794809A,
    decodeTableWord 8 0xD7, decodeTableWord 8 0x9F, decodeTableWord 32 0x3D2A80A6].map (Option.map Instr.mnemonic) =
    ["BUFWR", "PROG.E", "PROG.NE", "PGRD", "PGER", "BLKER", "SECER", "CHIPER", "SRRD", "IDRD", "PSCFG"].map some := by
  decide
theorem test_table_request : (requestRows.map fun r => (decodeTableWord 64 r.value.toNat).map Instr.mnemonic) =
    requestRows.map fun r => some r.name := by decide
-- the textual forms of R94 assemble to the words of R96
theorem test_asm_words : [asmInit, asmWrite 0x600 4 true true .busyPoll, asmRead 0x600 4 true,
    asmEraseBlock 0x1000 .noWait, asmEraseChip .busyPoll, asmIsBusy, asmErasePage 0x200 .fixedDelay,
    asmEraseSector 0x20000 .busyPoll, asmEraseG 5 0 .noWait] =
    [0x0000000000000000, 0x22E0000400000600, 0x40A0000400000600, 0x6400000000001000, 0x6E00000000000000,
      0x8000000000000000, 0x6100000000000200, 0x6A00000000020000, 0x7400000000000000] := by decide

/-! ### Address packing (3.2) and checksum (3.3) -/

theorem test_encAddr : [0, 0x200, 0x600, 0x1000, 0x20000, 0x1FF000, 0x1FFE00, 0xFFFE00].map
    (fun a => (encAddrOfOffset a).toList) =
    [[0x00, 0x00, 0x00], [0x00, 0x02, 0x00], [0x00, 0x06, 0x00], [0x00, 0x10, 0x00], [0x02, 0x00, 0x00],
      [0x1F, 0xF0, 0x00], [0x1F, 0xFE, 0x00], [0xFF, 0xFE, 0x00]] := by decide
theorem test_encAddr_general : (encAddr 5 0x1A3).toList = [0x00, 0x0B, 0xA3] := by decide
theorem test_crc16 : [[], [0x00], [0x01], [0x07], [0xFF], [0x00, 0x00], [0xAA, 0x55], [0x0F, 0xF0, 0x3C],
    [0x11, 0x22, 0x33], [0xDE, 0xAD, 0xBE, 0xEF], [0xDE, 0xAD, 0xBF, 0xEF],
    [0x31, 0x32, 0x33, 0x34, 0x35, 0x36, 0x37, 0x38, 0x39]].map crc16 =
    [0xFFFF, 0x40BF, 0x807E, 0x82FE, 0x00FF, 0xB001, 0x2FBF, 0xD205, 0x7079, 0xC19B, 0x519A, 0x4B37] := by decide +kernel
theorem test_crcCheck : [[0xDE, 0xAD, 0xBE, 0xEF, 0xC1, 0x9B], [0xDE, 0xAD, 0xBF, 0xEF, 0xC1, 0x9B],
    [0xDE, 0xAD, 0xBE, 0xEF, 0xC1, 0x1B], [0xDE, 0xAD, 0xBE, 0xEF, 0x9B, 0xC1]].map (fun f => crcCheck f 4) =
    [true, false, false, false] := by decide +kernel
-- DeviceBusy and the page-size test (3.5)
theorem test_deviceBusy : [0xAD, 0xAC, 0x80, 0xFF, 0x2D, 0x2C, 0x00, 0x7F].map (deviceBusy Params.r9) =
    [false, false, false, false, true, true, true, true] := by decide
theorem test_binaryMode : [0xAD, 0x2D, 0xAC, 0x2C].map (binaryMode Params.r9) = [true, true, false, false] := by decide

/-! ### Wire commands (3.4) -/

theorem test_bufwr : check (exec (.bufwr [0xDE, 0xAD, 0xBE, 0xEF] (some 0xC19B))
    (withEnv [ok [], ok [], ok [], ok []] [] inited)) (fun t => decide (t.trace =
      [.cs0, .tx [0x84], .tx [0, 0, 0], .tx [0xDE, 0xAD, 0xBE, 0xEF], .tx [0xC1, 0x9B], .cs1] ∧ t.seq = .idle)) = true := by
  decide
theorem test_progE : check (exec (.progE 0x000600) (withEnv [ok [], ok []] [] inited))
    (fun t => decide (t.trace = [.cs0, .tx [0x83], .tx [0x00, 0x06, 0x00], .cs1] ∧ t.adr = ⟨0, 6, 0⟩)) = true := by decide
theorem test_progNe : check (exec (.progNe 0x000400) (withEnv [ok [], ok []] [] inited))
    (fun t => decide (t.trace = [.cs0, .tx [0x88], .tx [0x00, 0x04, 0x00], .cs1])) = true := by decide
theorem test_pgrd : check (exec (.pgrd 0x000600 6)
    (withEnv [ok [], ok [], ok [], ok [0xDE, 0xAD, 0xBE, 0xEF, 0xC1, 0x9B]] [] inited)) (fun t => decide (t.trace =
      [.cs0, .tx [0xD2], .tx [0x00, 0x06, 0x00], .tx [0, 0, 0, 0], .rx [0xDE, 0xAD, 0xBE, 0xEF, 0xC1, 0x9B], .cs1] ∧
      fbBytes t 6 = [0xDE, 0xAD, 0xBE, 0xEF, 0xC1, 0x9B])) = true := by decide
theorem test_pgrd_too_long : faults (exec (.pgrd 0 513) base) (.frameBuffer 513) = true := by decide
theorem test_pger : check (exec (.pger 0x000200) (withEnv [ok [], ok []] [] inited))
    (fun t => decide (t.trace = [.cs0, .tx [0x81], .tx [0x00, 0x02, 0x00], .cs1])) = true := by decide
theorem test_blker_fails : check (exec (.blker 0x001000) (withEnv [ok [], bad] [] inited))
    (fun t => decide (t.trace = [.cs0, .tx [0x50], .txFail [0x00, 0x10, 0x00], .cs1] ∧ t.status = .ready)) = true := by
  decide
theorem test_secer : check (exec (.secer 0x020000) (withEnv [ok [], ok []] [] inited))
    (fun t => decide (t.trace = [.cs0, .tx [0x7C], .tx [0x02, 0x00, 0x00], .cs1])) = true := by decide
theorem test_chiper : check (exec .chiper (withEnv [ok []] [] inited))
    (fun t => decide (t.trace = [.cs0, .tx [0xC7, 0x94, 0x80, 0x9A], .cs1] ∧ t.cmd = ⟨0xC7, 0x94, 0x80, 0x9A⟩)) = true := by
  decide
theorem test_srrd : check (exec .srrd (withEnv [ok [], ok [0xAD]] [] inited))
    (fun t => decide (t.trace = [.cs0, .tx [0xD7], .rx [0xAD], .cs1] ∧ t.sr = 0xAD)) = true := by decide
theorem test_idrd : check (exec .idrd (withEnv [ok [], ok [0x1F, 0x26, 0x00, 0x01, 0x00]] [] inited))
    (fun t => decide (t.trace = [.cs0, .tx [0x9F], .rx [0x1F, 0x26, 0x00, 0x01, 0x00], .cs1] ∧
      t.cmd.c0 = 0x9F)) = true := by decide
/-- R21: written only by INIT. -/
theorem test_idrd_keeps_identity : check (exec .idrd (withEnv [ok [], ok [0x20, 0x27, 0, 0, 0]] [] inited))
    (fun t => decide (t.identity = inited.identity)) = true := by decide
theorem test_pscfg : check (exec .pscfg (withEnv [ok []] [] inited))
    (fun t => decide (t.trace = [.cs0, .tx [0x3D, 0x2A, 0x80, 0xA6], .cs1])) = true := by decide
/-- R90, R115 to R120: an address past the array, whole or in part, or between two units, is turned away. -/
theorem test_wire_bounds : [Instr.progE 0xFFFE00, .progNe 0x200000, .pgrd 0x200000 1, .pger 0xFFFE00, .blker 0x200000,
    .secer 0x200000, .blker 0x000200, .secer 0x001000].all (fun i => check (exec i (withEnv [ok [], ok []] [] inited))
      (fun t => decide (t.trace = [] ∧ t.status = .errorArgument ∧ t.adr = inited.adr))) = true := by decide
/-- R264, D19: none of the eleven touches the bus of an uninitialised block, nor of one whose bus is unbound. -/
theorem test_wire_early : [base, { base with busBound := true, csId := 1 }, { inited with busBound := false }].all (fun s =>
    [Instr.bufwr [1] none, .progE 0, .progNe 0, .pgrd 0 1, .pger 0, .blker 0, .secer 0, .chiper, .srrd, .idrd, .pscfg].all
      (fun i => check (exec i s) (fun t => decide (t.trace = [] ∧ t.status = .errorArgument ∧ t.draws = 0)))) = true := by
  decide

/-! ### INIT (P1, P5) -/

/-- P2 step 1: ready, binary mode. -/
theorem test_init_binary : check (exec .init (withEnv
    [ok [], ok [0xAD], ok [], ok [0x1F, 0x26, 0x00, 0x01, 0x00], ok [], ok [0xAD]] [1000] base)) (fun t => decide (t.trace =
      [.tick 1000, .cs0, .tx [0xD7], .rx [0xAD], .cs1, .cs0, .tx [0x9F], .rx [0x1F, 0x26, 0x00, 0x01, 0x00], .cs1,
        .cs0, .tx [0xD7], .rx [0xAD], .cs1] ∧
      t.status = .ready ∧ t.pageCount = 4096 ∧ t.csId = 1 ∧ t.seq = .idle)) = true := by decide
/-- P1 step 1 up to the first pass of the delay: alternate mode, PSCFG sent, elapsed 1 of 2. -/
theorem test_init_reconfigures : check (exec .init (withEnv
    [ok [], ok [0xAC], ok [], ok [0x1F, 0x26, 0x00, 0x01, 0x00], ok [], ok [0xAC], ok []] [100, 101, 102] base))
    (fun t => decide (t.trace.drop 13 = [.cs0, .tx [0x3D, 0x2A, 0x80, 0xA6], .cs1, .tick 101, .tick 102] ∧
      t.flight = some (.initConfig ⟨4096, by decide⟩) ∧ t.t0 = 101 ∧ t.pageCount = 0 ∧ t.seq = .wait)) = true := by decide
/-- P1 step 1, the last pass of the delay: verified, Ready. -/
theorem test_init_verifies : check (step (withEnv [ok [], ok [0xAD]] [103]
    { base with flight := some (.initConfig ⟨4096, by decide⟩), seq := .wait, t0 := 101, busBound := true, csId := 1 }))
    (fun t => decide (t.trace = [.tick 103, .cs0, .tx [0xD7], .rx [0xAD], .cs1] ∧ t.status = .ready ∧
      t.pageCount = 4096 ∧ t.flight = none)) = true := by decide
/-- P5 step 6: wrong manufacturer. -/
theorem test_init_manufacturer : check (exec .init (withEnv [ok [], ok [0xAD], ok [], ok [0x20, 0x26, 0x00, 0x01, 0x00]] [7]
    { base with csIdIn := 3 })) (fun t => decide (t.status = .errorInitialization ∧ t.pageCount = 0 ∧ t.csId = 3 ∧
      t.identity = ⟨0x20, 0x26, 0x00, 0x01, 0x00⟩ ∧ t.busBound = true)) = true := by decide
/-- P5: a failing receive in the identity frame is ErrorTimeout; a failing step-5 status read is ErrorInitialization. -/
theorem test_init_transport : (check (exec .init (withEnv [ok [], ok [0xAC], ok [], bad] [50] base))
    (fun t => decide (t.status = .errorTimeout)) &&
    check (exec .init (withEnv [ok [], ok [0xAC], ok [], ok [0x1F, 0x26, 0x00, 0x01, 0x00], ok [], bad] [50] base))
    (fun t => decide (t.status = .errorInitialization ∧ t.pageCount = 0))) = true := by decide

/-! ### WRITE (P2, P4, P6) -/

/-- HostBuf for the tests. -/
def hostWith (bytes : List Byte) (s : State) : State := { s with hostBuf := Memory.writeBytes [] 0 bytes }

theorem test_write_nowait : check (exec (.write .noWait true true true 4 0x600)
    (hostWith [0xDE, 0xAD, 0xBE, 0xEF] (withEnv [ok [], ok [], ok [], ok [], ok [], ok []] [] inited)))
    (fun t => decide (t.trace = [.cs0, .tx [0x84], .tx [0, 0, 0], .tx [0xDE, 0xAD, 0xBE, 0xEF], .tx [0xC1, 0x9B], .cs1,
      .cs0, .tx [0x83], .tx [0x00, 0x06, 0x00], .cs1] ∧ t.status = .ready ∧ t.crc = 0xC19B)) = true := by decide +kernel
/-- P6 step 1, its first delay pass: plain program, FixedDelay(3). -/
theorem test_write_delay : check (exec (.write .fixedDelay false false true 3 0x400)
    (hostWith [0x0F, 0xF0, 0x3C] (withEnv [ok [], ok [], ok [], ok [], ok []] [11, 12] inited)))
    (fun t => decide (t.trace = [.cs0, .tx [0x84], .tx [0, 0, 0], .tx [0x0F, 0xF0, 0x3C], .cs1,
      .cs0, .tx [0x88], .tx [0x00, 0x04, 0x00], .cs1, .tick 11, .tick 12] ∧ t.flight = some (.delay 3) ∧
      t.status = .busyWrite)) = true := by decide
/-- P4 steps 2 and 3: a failure in phase 1, then in phase 2. -/
theorem test_write_failures : (check (exec (.write .noWait false true true 2 0x200)
    (hostWith [0xAA, 0x55] (withEnv [ok [], ok [], bad] [] inited)))
    (fun t => decide (t.trace = [.cs0, .tx [0x84], .tx [0, 0, 0], .txFail [0xAA, 0x55], .cs1] ∧ t.status = .errorTimeout)) &&
    check (exec (.write .noWait false true true 2 0x200)
    (hostWith [0xAA, 0x55] (withEnv [ok [], ok [], ok [], ok [], bad] [] inited)))
    (fun t => decide (t.trace = [.cs0, .tx [0x84], .tx [0, 0, 0], .tx [0xAA, 0x55], .cs1, .cs0, .tx [0x83],
      .txFail [0x00, 0x02, 0x00], .cs1] ∧ t.status = .errorTimeout))) = true := by decide
/-- The rows G1-a to G4-c, GP-a of 3.6. -/
theorem test_write_guards : [0x2060000000000000, 0x2040000100000000, 0x20E001FF00000000, 0x20600001000001FF,
    0x2060000100000201, 0x20600001001FFFFF, 0x2060000100200000, 0x2060000101000000, 0x2320000100000000].all (fun w =>
      check (exec (decodeRequest w) inited) (fun t => decide (t.status = .errorArgument ∧ t.trace = []))) = true := by decide

/-! ### READ (P2) -/

theorem test_read_verified : check (exec (.read true true 4 0x600) (hostWith [0x55, 0x55, 0x55, 0x55]
    (withEnv [ok [], ok [], ok [], ok [0xDE, 0xAD, 0xBE, 0xEF, 0xC1, 0x9B]] [] inited)))
    (fun t => decide (t.status = .ready ∧ hostBytes t 4 = [0xDE, 0xAD, 0xBE, 0xEF])) = true := by decide +kernel
theorem test_read_corrupted : check (exec (.read true true 4 0x600) (hostWith [0x55, 0x55, 0x55, 0x55]
    (withEnv [ok [], ok [], ok [], ok [0xDE, 0xAD, 0xBF, 0xEF, 0xC1, 0x9B]] [] inited)))
    (fun t => decide (t.status = .errorChecksum ∧ hostBytes t 4 = [0x55, 0x55, 0x55, 0x55])) = true := by decide +kernel
/-- P2 steps 7 and 8 and row G0-a: grant after the arguments. -/
theorem test_read_grant : (check (exec (.read true true 4 0x600) { inited with frameGrant := false })
    (fun t => decide (t.status = .errorMemoryAllocation ∧ t.trace = [])) &&
    check (exec (.read true true 4 0x601) { inited with frameGrant := false })
    (fun t => decide (t.status = .errorArgument)) &&
    check (exec (.read false true 1 0) base) (fun t => decide (t.status = .errorArgument))) = true := by decide

/-! ### ERASE (P3) -/

theorem test_erasePage_delay : check (exec (.erasePage .fixedDelay 0x200)
    (withEnv [ok [], ok []] [0xFFFFFFFE, 0xFFFFFFFF] inited)) (fun t => decide (t.trace = [.cs0, .tx [0x81],
      .tx [0x00, 0x02, 0x00], .cs1, .tick 0xFFFFFFFE, .tick 0xFFFFFFFF] ∧ t.flight = some (.delay 2))) = true := by decide
/-- P3 step 7's last pass: elapsed 2 across the wrap of the tick. -/
theorem test_delay_wraps : check (step (withEnv [] [0] { inited with
    status := .busyErase, seq := .wait, flight := some (.delay 2), t0 := 0xFFFFFFFE }))
    (fun t => decide (t.status = .ready ∧ t.trace = [.tick 0] ∧ t.flight = none)) = true := by decide
theorem test_eraseBlock_last : check (exec (.eraseBlock .noWait 0x1FF000) (withEnv [ok [], ok []] [] inited))
    (fun t => decide (t.trace = [.cs0, .tx [0x50], .tx [0x1F, 0xF0, 0x00], .cs1] ∧ t.status = .ready)) = true := by decide
theorem test_eraseSector_poll : check (exec (.eraseSector .busyPoll 0x20000)
    (withEnv [ok [], ok [], ok [], ok [0x2D]] [1, 2] inited)) (fun t => decide (t.trace = [.cs0, .tx [0x7C],
      .tx [0x02, 0x00, 0x00], .cs1, .tick 1, .cs0, .tx [0xD7], .rx [0x2D], .cs1, .tick 2] ∧
      t.flight = some (.poll 4) ∧ t.status = .busyErase)) = true := by decide
/-- P3 step 11's last pass: elapsed 6 of budget 5. -/
theorem test_eraseChip_expires : check (step (withEnv [ok [], ok [0x2D]] [11] { inited with
    status := .busyErase, seq := .gap, flight := some (.poll 5), t0 := 5 }))
    (fun t => decide (t.status = .errorTimeout ∧ t.trace = [.cs0, .tx [0xD7], .rx [0x2D], .cs1, .tick 11] ∧
      t.flight = none)) = true := by decide
theorem test_eraseChip : check (exec (.eraseChip .noWait 0) (withEnv [ok []] [] inited))
    (fun t => decide (t.trace = [.cs0, .tx [0xC7, 0x94, 0x80, 0x9A], .cs1] ∧ t.status = .ready)) = true := by decide
/-- The rows EA-*, GP-b and G0-b of 3.6. -/
theorem test_erase_guards : ([0x60000000000001FF, 0x6000000000000201, 0x6000000000200000, 0x6400000000000FFF,
    0x6400000000001001, 0x64000000001FF200, 0x6400000000200000, 0x680000000001FFFF, 0x6800000000020001,
    0x6800000000200000, 0x6C00000000000001, 0x6C000000FFFFFFFF, 0x6300000000000000].all (fun w =>
      check (exec (decodeRequest w) inited) (fun t => decide (t.status = .errorArgument ∧ t.trace = []))) &&
    check (exec (.eraseChip .noWait 0) base) (fun t => decide (t.status = .errorArgument))) = true := by decide
theorem test_eraseUnrecognised : check (exec (.eraseUnrecognised 6) base)
    (fun t => decide (t.status = .errorInstruction ∧ t.trace = [])) = true := by decide

/-! ### ISBUSY and RESERVED (P3, P4, P5) -/

theorem test_isBusy : (check (exec .isBusy (withEnv [ok [], ok [0x2D]] [] inited))
    (fun t => decide (t.rspBusy = true ∧ t.sr = 0x2D ∧ t.status = .ready)) &&
    check (exec .isBusy (withEnv [ok [], ok [0xAD]] [] inited)) (fun t => decide (t.rspBusy = false ∧ t.sr = 0xAD))) = true := by
  decide
theorem test_isBusy_failures : (check (exec .isBusy (withEnv [ok [], bad] [] { inited with sr := 0xAD, status := .errorTimeout }))
    (fun t => decide (t.rspBusy = true ∧ t.sr = 0xAD ∧ t.status = .errorTimeout)) &&
    check (exec .isBusy base) (fun t => decide (t.rspBusy = true ∧ t.trace = []))) = true := by decide
theorem test_reserved5 : check (exec .reserved5 inited) (fun t => decide (t.status = .errorArgument ∧ t.trace = [])) = true := by
  decide
theorem test_reserved67 : check (exec (.reserved67 true) inited)
    (fun t => decide (t.status = .errorArgument ∧ t.trace = [])) = true := by decide

/-! ### Steps -/

/-- The first step after reset runs the word it is given. -/
theorem test_step_runs_word : check (step (base.withFetchWord 64 0xA000000000000000))
    (fun t => decide (t.status = .errorArgument ∧ t.port = none)) = true := by decide
/-- R54, R189, R207: frames with a misaligned address, no payload, a non-zero buffer address or an opcode of no row are
ErrorArgument with no bus event, on an initialised block as on a fresh one. -/
theorem test_step_rejects_frames : [inited, base].all (fun s => [[0x50, 0x00, 0x02, 0x00], [0x84, 0, 0, 0], [0x84, 0, 1, 0, 7],
    [0x00], []].all (fun b => check (step { s with port := some (.frame false b) })
      (fun t => decide (t.status = .errorArgument ∧ t.trace = [] ∧ t.port = none)))) = true := by decide
/-- R261: reset with a scope open closes it and delivers no response. -/
theorem test_reset_in_frame : check (step { inited with resetIn := true, cs := false, seq := .frame, trace := [.cs0] })
    (fun t => decide (t.trace = [.cs0, .cs1] ∧ t.cs = true ∧ t.status = .reset ∧ t.pageCount = 0)) = true := by decide

/-! ### Witnesses: for each statement with hypotheses, operands and a state that meet all of them -/

/-- `inited` with the answers of a whole successful operation. -/
def oks (n : Nat) : List BusAnswer := List.replicate n (ok [])

/-- Agreement of two words on the bits below 64 is agreement on all bits. -/
theorem bits_agree {p : Nat → Prop} {w v : BitVec 64} (h : ∀ i, i < 64 → p i → w.getLsbD i = v.getLsbD i) :
    ∀ i, p i → w.getLsbD i = v.getLsbD i := by
  intro i hp
  by_cases hi : i < 64
  · exact h i hi hp
  · rw [BitVec.getLsbD_of_ge _ _ (by omega), BitVec.getLsbD_of_ge _ _ (by omega)]

theorem witness_DecodeOfEncode : WellFormed (.bufwr (List.replicate 510 0xFF) (some 0xC19B)) ∧
    WellFormed (.bufwr (List.replicate 512 0) none) ∧ WellFormed (.pgrd 0xFFFE00 512) ∧ WellFormed (.blker 0xFFF000) ∧
    WellFormed (.secer 0xFE0000) ∧ WellFormed (.eraseUnrecognised 4) ∧ WellFormed (.write .reserved true true true 0 1) := by
  decide +kernel
theorem witness_UnusedRequestFieldsIgnored :
    (∀ i, i < 48 ∨ 53 ≤ i → (0x22E0000400000600#64).getLsbD i = (0x22FF000400000600#64).getLsbD i) ∧
    (reqOp 0x8000000000000000 = 4 ∧ ∀ i, 61 ≤ i → (0x8000000000000000#64).getLsbD i = (0x9FFFFFFFFFFFFFFF#64).getLsbD i) ∧
    (reqOp 0x2000000000000001 = 1 ∧ ∀ i, i < 48 ∨ 53 ≤ i ∧ i ≤ 57 ∨ 61 ≤ i →
      (0x2000000000000001#64).getLsbD i = (0x3C1F000000000001#64).getLsbD i) ∧
    (reqOp 0x40A0000400000600 = 2 ∧ ∀ i, i < 48 ∨ i = 53 ∨ i = 55 ∨ 61 ≤ i →
      (0x40A0000400000600#64).getLsbD i = (0x5FFF000400000600#64).getLsbD i) ∧
    (reqOp 0x6E00000000000000 = 3 ∧ reqGran 0x6E00000000000000 < 4 ∧ ∀ i, i < 32 ∨ 56 ≤ i →
      (0x6E00000000000000#64).getLsbD i = (0x6EFFFFFF00000000#64).getLsbD i) ∧
    (reqOp 0x7000000000000000 = 3 ∧ 4 ≤ reqGran 0x7000000000000000 ∧ ∀ i, 58 ≤ i →
      (0x7000000000000000#64).getLsbD i = (0x73FFFFFFFFFFFFFF#64).getLsbD i) :=
  ⟨bits_agree (by decide), ⟨by decide, bits_agree (by decide)⟩, ⟨by decide, bits_agree (by decide)⟩,
    ⟨by decide, bits_agree (by decide)⟩, ⟨by decide, by decide, bits_agree (by decide)⟩,
    by decide, by decide, bits_agree (by decide)⟩
theorem witness_AddressFieldValue : (511 : Nat) < 512 := by decide
theorem witness_AlignedAddressBytes : ((0xFFFE00 : BitVec 32).toNat % 512 = 0 ∧ (0xFFFE00 : BitVec 32).toNat < 2 ^ 24) ∧
    ((32767 : Nat) < 2 ^ 15 ∧ (511 : Nat) < 512 ∧ encAddr 32767 511 = encAddr 32767 511) := by decide
theorem witness_Checksum : crcByte 0x1234 0x56 = crcByte 0x1234 0x56 ∧ (0x00 : Byte) ≠ 0x01 ∧
    ([0x01, 0x02] : List Byte).length = ([0xFF, 0x00] : List Byte).length := by decide
/-- The first payload byte and the last checksum byte. -/
theorem witness_OneByteCorruptionFailsCheck :
    ([0xDE, 0xAD] ++ crcBytes (crc16 [0xDE, 0xAD]) : List Byte)[0]? ≠ some 0xDF ∧
    ([0xDE, 0xAD] ++ crcBytes (crc16 [0xDE, 0xAD]) : List Byte)[3]? ≠ some 0x98 ∧
    ([0xDE, 0xAD] ++ crcBytes (crc16 [0xDE, 0xAD]) : List Byte).length = 4 := by decide +kernel

/-- The last unit of the array, for each unit. -/
theorem witness_AddressedCommandsSend : let s := withEnv (oks 2) [] inited
    s.bus = ⟨true, []⟩ :: ⟨true, []⟩ :: [] ∧ s.pageCount ≠ 0 ∧ s.busBound = true ∧
    (0x1FFE00#24).toNat % 512 = 0 ∧ (0x1FFE00#24).toNat + 512 ≤ s.pageCount.toNat * 512 ∧
    (0x1FF000#24).toNat % 4096 = 0 ∧ (0x1FF000#24).toNat + 4096 ≤ s.pageCount.toNat * 512 ∧
    (0x1E0000#24).toNat % 131072 = 0 ∧ (0x1E0000#24).toNat + 131072 ≤ s.pageCount.toNat * 512 := by decide
theorem witness_BufferWriteSends : (withEnv (oks 4) [] inited).bus = ⟨true, []⟩ :: ⟨true, []⟩ :: ⟨true, []⟩ :: oks 1 ∧
    oks 1 = ⟨true, []⟩ :: [] ∧ inited.pageCount ≠ 0 ∧ inited.busBound = true := by decide
/-- Two bytes received, all 512, and each of the four calls as the first to fail. -/
theorem witness_PageReadStores : inited.pageCount ≠ 0 ∧ inited.busBound = true ∧ 512 ≤ 512 ∧
    (0x1FFE00#24).toNat % 512 = 0 ∧ (0x1FFE00#24).toNat + 512 ≤ inited.pageCount.toNat * 512 ∧
    2 = ([0xDE, 0xAD] : List Byte).length ∧ 512 = (List.replicate 512 (0 : Byte)).length ∧
    (∀ k ∈ [0, 1, 2, 3], ([Call.tx [0xD2], .tx [0x1F, 0xFE, 0x00], .tx [0, 0, 0, 0], .rx 2][(oks k).length]?).isSome = true ∧
      (oks k).all (fun x => x.ok) = true ∧
      (withEnv (oks k ++ ⟨false, []⟩ :: []) [] inited).bus = oks k ++ ⟨false, []⟩ :: []) := by decide +kernel
theorem witness_PageReadPastFrameBufferStops : 512 < 513 := by decide
theorem witness_FixedSequencesSend : (withEnv (oks 1) [] inited).bus = ⟨true, []⟩ :: [] ∧
    inited.pageCount ≠ 0 ∧ inited.busBound = true := by decide
/-- Both calls succeed, the receive fails, the transmit fails. -/
theorem witness_StatusReadStores : (withEnv [ok [], ok [0xAD]] [] inited).bus = ⟨true, []⟩ :: ⟨true, 0xAD :: []⟩ :: [] ∧
    (withEnv [ok [], bad] [] inited).bus = ⟨true, []⟩ :: ⟨false, []⟩ :: [] ∧
    (withEnv [bad] [] inited).bus = ⟨false, []⟩ :: [] ∧
    inited.pageCount ≠ 0 ∧ inited.busBound = true := by decide
/-- Both calls succeed, the receive fails, the transmit fails. -/
theorem witness_IdentityReadReceives : (withEnv [ok [], ok [0x1F, 0x26, 0, 1, 0]] [] inited).bus =
    ⟨true, []⟩ :: ⟨true, [0x1F, 0x26, 0, 1, 0]⟩ :: [] ∧ (withEnv [ok [], bad] [] inited).bus = ⟨true, []⟩ :: ⟨false, []⟩ :: [] ∧
    (withEnv [bad] [] inited).bus = ⟨false, []⟩ :: [] ∧
    inited.pageCount ≠ 0 ∧ inited.busBound = true := by decide
/-- A status read that fails, a page read that changes FB; one turned away before INIT, one with its address past the array. -/
theorem witness_WireCommandIsOneScope : isWire .srrd = true ∧ isWire (.pgrd 0 1) = true ∧ isWire (.progE 0xFFFE00) = true ∧
    WireRuns inited .srrd ∧ WireRuns inited (.pgrd 0 1) ∧
    check (exec .srrd (withEnv [ok [], bad] [] inited)) (fun t => decide (t.sr = inited.sr)) = true ∧
    check (exec (.pgrd 0 1) (withEnv (oks 3 ++ [ok [1]]) [] inited)) (fun t => decide (t.fb ≠ inited.fb)) = true ∧
    ¬WireRuns base .srrd ∧ base.cs = true ∧ check (exec .srrd base) (fun _ => true) = true ∧
    ¬WireRuns inited (.progE 0xFFFE00) ∧ inited.cs = true ∧
    check (exec (.progE 0xFFFE00) inited) (fun t => decide (t.status = .errorArgument)) = true :=
  ⟨rfl, rfl, rfl, ⟨by decide, rfl, trivial⟩, ⟨by decide, rfl, ⟨by decide, by decide⟩⟩, by decide, by decide, fun h => h.1 rfl, rfl,
    by decide, fun h => absurd h.2.2.2 (by decide), rfl, by decide⟩
theorem witness_FrameStopsAtFirstFailure : (withEnv [ok [], bad, ok []] [] base).bus = [ok []] ++ ⟨false, []⟩ :: [ok []] ∧
    [ok []].length = [Call.tx [0xD7]].length ∧ ∀ x ∈ [ok []], x.ok = true := by decide

/-- What a whole INIT on a ready device in binary mode is answered. -/
def initAnswers : List BusAnswer := [ok [], ok [0xAD], ok [], ok [0x1F, 0x26, 0, 1, 0], ok [], ok [0xAD]]

theorem witness_InitSucceeds : let s := withEnv initAnswers [100] base
    s.busOk = true ∧ s.csIdIn ≠ 0 ∧ s.ticks = 100 :: [] ∧
    s.bus = ⟨true, []⟩ :: ⟨true, 0xAD :: []⟩ :: ⟨true, []⟩ :: ⟨true, [0x1F, 0x26, 0, 1, 0]⟩ :: ⟨true, []⟩ ::
      ⟨true, 0xAD :: []⟩ :: [] ∧ deviceBusy s.params 0xAD = false ∧ (0x1F : Byte) = 0x1F ∧
    partOf s.params 0x26 = some ⟨4096, by decide⟩ ∧ binaryMode s.params 0xAD = true := by decide
theorem witness_InitRejectsStraps : base.cs = true ∧ { base with busOk := false }.busOk = false ∧
    { base with csIdIn := 0 }.csIdIn = 0 ∧ { base with csIdIn := 0 }.cs = true := by decide
/-- A block in the middle of INIT's ready wait. -/
def readying : State := { base with busBound := true, csId := 1, seq := .gap, flight := some .initReady, t0 := 10 }

/-- Both ways into a pass of INIT's ready wait: with the INIT itself, and in a later pass. -/
theorem initPass_both (bus : List BusAnswer) (t : Tick) (ticks : List Tick) :
    (∃ start, InitPass (withEnv bus (t :: ticks) base) (exec .init (withEnv bus (t :: ticks) base)) start ∧
      start.ticks = ticks) ∧
    InitPass (withEnv bus ticks readying) (step (withEnv bus ticks readying)) (withEnv bus ticks readying) :=
  ⟨⟨_, .first rfl (show (1 : BitVec 16) ≠ 0 by decide) t ticks rfl, rfl⟩, .later rfl (show Seq.gap ≠ .idle by decide) rfl⟩
/-- A wrong manufacturer, then an unknown device code; `initPass_both` gives the two runs, on any of these answers. -/
theorem witness_InitRejectsDevice : ∀ id ∈ [[(0x20 : Byte), 0x26, 0, 1, 0], [0x1F, 0x27, 0, 1, 0]], ∀ b ∈ [base, readying],
    let s := withEnv [ok [], ok [0xAD], ok [], ok id] [100] b
    s.bus = ⟨true, []⟩ :: ⟨true, 0xAD :: []⟩ :: ⟨true, []⟩ :: ⟨true, id⟩ :: [] ∧ deviceBusy s.params 0xAD = false ∧
    (id.getD 0 0 ≠ 0x1F ∨ partOf s.params (id.getD 1 0) = none) := by decide
/-- What an INIT that reconfigures the page size is answered. -/
def configAnswers : List BusAnswer := initAnswers.take 5 ++ [ok [0xAC], ok [], ok [], ok [0xAD]]

/-- Each of the nine transfers of such an INIT can be the first to fail, with `initPass_both`. -/
theorem witness_InitTransportErrors : ∀ k ∈ [0, 1, 2, 3, 4, 5, 6, 7, 8], ∀ b ∈ [base, readying],
    let s := withEnv (configAnswers.take k ++ ⟨false, []⟩ :: []) [101, 103] b
    deviceBusy s.params 0xAD = false ∧ s.ticks = 101 :: 103 :: [] ∧
    partOf s.params 0x26 = some ⟨4096, by decide⟩ ∧ binaryMode s.params 0xAC = false ∧
    s.params.tConfig ≤ (103 : Tick) - 101 ∧ s.bus = configAnswers.take k ++ ⟨false, []⟩ :: [] ∧
    configAnswers.take 8 = ⟨true, []⟩ :: ⟨true, 0xAD :: []⟩ :: ⟨true, []⟩ :: ⟨true, [0x1F, 0x26, 0, 1, 0]⟩ ::
      ⟨true, []⟩ :: ⟨true, 0xAC :: []⟩ :: ⟨true, []⟩ :: ⟨true, []⟩ :: [] := by decide
/-- A first reading inside the delay, with no more answers needed; one that has passed it, with the mode then binary or not; with
`initPass_both`. -/
theorem witness_InitReconfigures : ∀ c ∈ [((102 : Tick), ([] : List BusAnswer)), (103, [ok [], ok [0xAD]]), (103, [ok [], ok [0xAC]])],
    ∀ b ∈ [base, readying], let s := withEnv (configAnswers.take 7 ++ c.2) [101, c.1] b
    s.ticks = 101 :: c.1 :: [] ∧
    s.bus = ⟨true, []⟩ :: ⟨true, 0xAD :: []⟩ :: ⟨true, []⟩ :: ⟨true, [0x1F, 0x26, 0, 1, 0]⟩ :: ⟨true, []⟩ ::
      ⟨true, 0xAC :: []⟩ :: ⟨true, []⟩ :: c.2 ∧ deviceBusy s.params 0xAD = false ∧
    partOf s.params 0x26 = some ⟨4096, by decide⟩ ∧ binaryMode s.params 0xAC = false ∧ binaryMode s.params 0xAD = true ∧
    (s.params.tConfig ≤ c.1 - 101 ↔ c.1 = 103) := by decide
/-- A later pass that finds the device ready, of an INIT that then meets a wrong manufacturer. -/
theorem test_init_later_manufacturer : check (step (withEnv [ok [], ok [0xAD], ok [], ok [0x20, 0x26, 0, 1, 0]] [] readying))
    (fun t => decide (t.status = .errorInitialization ∧ t.pageCount = 0 ∧ t.identity = ⟨0x20, 0x26, 0, 1, 0⟩)) = true := by
  decide
/-- The largest frame at the last page, with its checksum. -/
theorem witness_WriteSucceeds : let s := withEnv (oks 6) [] inited
    510#16 ≠ 0 ∧ (510#16).toNat + (if true then 2 else 0) ≤ 512 ∧ (0x1FFE00#32).toNat % 512 = 0 ∧
    (0x1FFE00#32).toNat < s.pageCount.toNat * 512 ∧ s.bus = oks 6 ++ [] ∧ (oks 6).length = (if true then 6 else 5) ∧
    ∀ x ∈ oks 6, x.ok = true := by decide
/-- Each way to fail a guard of WRITE or READ, one at a time. -/
theorem witness_WriteRejected : inited.cs = true ∧ base.cs = true ∧ base.pageCount = 0 ∧ 0#16 = 0 ∧
    512 < (511#16).toNat + (if true then 2 else 0) ∧ (0x1FF#32).toNat % 512 ≠ 0 ∧
    inited.pageCount.toNat * 512 ≤ (0x200000#32).toNat ∧ Policy.reserved = .reserved := by decide
/-- What each of WRITE and the four ERASE sends before its completion policy `p`, in `s`, with the number of its transfers. -/
def AdmittedAll (p : Policy) (s : Nat → State) : Prop :=
  (∃ frames latched, Admitted (s 6) p (.write p true true true 4 0x600) (s 6).params.tProgE frames latched ∧
    6 = frames.flatten.length) ∧
  (∃ frames latched, Admitted (s 5) p (.write p false false true 512 0x1FFE00) (s 5).params.tProgNe frames latched ∧
    5 = frames.flatten.length) ∧
  (∃ frames latched, Admitted (s 2) p (.erasePage p 0x1FFE00) (s 2).params.tPger frames latched ∧
    2 = frames.flatten.length) ∧
  (∃ frames latched, Admitted (s 2) p (.eraseBlock p 0x1FF000) (s 2).params.tBlker frames latched ∧
    2 = frames.flatten.length) ∧
  (∃ frames latched, Admitted (s 2) p (.eraseSector p 0x1E0000) (s 2).params.tSecer frames latched ∧
    2 = frames.flatten.length) ∧
  ∃ frames latched, Admitted (s 1) p (.eraseChip p 0) (s 1).params.tChiper frames latched ∧ 1 = frames.flatten.length

/-- An initialised block of 4096 pages admits them all, whatever its environment answers. -/
theorem admitted_all (p : Policy) (h : p ≠ .reserved) (bus : Nat → List BusAnswer) (ticks : List Tick) :
    AdmittedAll p fun k => withEnv (bus k) ticks inited := by
  have init : (4096 : BitVec 16) ≠ 0 := by decide
  exact ⟨⟨_, _, .write true true 4 0x600 h (by decide) (by decide) (by decide)
      (show (0x600#32).toNat < (4096#16).toNat * 512 by decide), rfl⟩,
    ⟨_, _, .write false false 512 0x1FFE00 h (by decide) (by decide) (by decide)
      (show (0x1FFE00#32).toNat < (4096#16).toNat * 512 by decide), rfl⟩,
    ⟨_, _, .erasePage 0x1FFE00 h init (by decide)
      (show (0x1FFE00#32).toNat + 512 ≤ (4096#16).toNat * 512 by decide), rfl⟩,
    ⟨_, _, .eraseBlock 0x1FF000 h init (by decide)
      (show (0x1FF000#32).toNat + 4096 ≤ (4096#16).toNat * 512 by decide), rfl⟩,
    ⟨_, _, .eraseSector 0x1E0000 h init (by decide)
      (show (0x1E0000#32).toNat + 131072 ≤ (4096#16).toNat * 512 by decide), rfl⟩,
    ⟨_, _, .eraseChip h init, rfl⟩⟩

/-- A page erase whose second transfer fails, a WRITE whose third transfer fails in its first frame or whose fifth fails in its
second, a READ whose transmit number k fails or, at the last, its receive. -/
theorem witness_DataTransportErrors :
    (let s := withEnv (oks 1 ++ ⟨false, []⟩ :: []) [] inited;
      Admitted s .noWait (.erasePage .noWait 0x1FFE00) s.params.tPger ([] ++ ([[0x81]] ++ [0x1F, 0xFE, 0x00] :: []) :: [])
        { s with status := .busyErase, cmd := { s.cmd with c0 := 0x81 }, adr := ⟨0x1F, 0xFE, 0x00⟩ } ∧
      (oks 1).length = ([] : List (List (List Byte))).flatten.length + 1) ∧
    (∀ k ∈ [2, 4], AdmittedAll .noWait (fun _ => withEnv (oks k ++ ⟨false, []⟩ :: []) [] inited) ∧ ∀ x ∈ oks k, x.ok = true) ∧
    ∀ k ∈ [0, 1, 2, 3], let s := withEnv (oks k ++ ⟨false, []⟩ :: []) [] inited
      510#16 ≠ 0 ∧ (510#16).toNat + (if true then 2 else 0) ≤ 512 ∧ (0x1FFE00#32).toNat % 512 = 0 ∧
      (0x1FFE00#32).toNat < s.pageCount.toNat * 512 ∧ s.frameGrant = true ∧
      ([Call.tx [0xD2], .tx [0x1F, 0xFE, 0x00], .tx [0, 0, 0, 0], .rx 512][(oks k).length]?).isSome = true := by
  refine ⟨⟨.erasePage 0x1FFE00 (by decide) (by decide) (by decide) (by decide), rfl⟩, fun k _ =>
    ⟨admitted_all _ (by decide) (fun _ => _) _, fun x hx => ?_⟩, by decide⟩
  rw [List.eq_of_mem_replicate hx]
  rfl
theorem witness_ReadSucceeds : let s := withEnv [ok [], ok [], ok [], ok [0xDE, 0xAD]] [] inited
    2#16 ≠ 0 ∧ (2#16).toNat ≤ 512 ∧ (0x1FFE00#32).toNat % 512 = 0 ∧ (0x1FFE00#32).toNat < s.pageCount.toNat * 512 ∧
    s.frameGrant = true ∧ ([0xDE, 0xAD] : List Byte).length = (2#16).toNat ∧
    s.bus = ⟨true, []⟩ :: ⟨true, []⟩ :: ⟨true, []⟩ :: ⟨true, [0xDE, 0xAD]⟩ :: [] := by decide
/-- A right and a wrong checksum of the one-byte payload 01 (0x807E). -/
theorem witness_ReadVerifies : ∀ lo ∈ [(0x7E : Byte), 0x7F],
    let s := withEnv [ok [], ok [], ok [], ok [0x01, 0x80, lo]] [] inited
    1#16 ≠ 0 ∧ (1#16).toNat + 2 ≤ 512 ∧ (0x200#32).toNat % 512 = 0 ∧ (0x200#32).toNat < s.pageCount.toNat * 512 ∧
    s.frameGrant = true ∧ ([0x01] : List Byte).length = (1#16).toNat ∧
    s.bus = ⟨true, []⟩ :: ⟨true, []⟩ :: ⟨true, []⟩ :: ⟨true, [0x01] ++ [0x80, lo]⟩ :: [] ∧
    (crc16 [0x01] = (0x80 : Byte) ++ lo ↔ lo = 0x7E) := by decide
theorem witness_ReadRejected : inited.cs = true ∧ base.pageCount = 0 ∧ let s := { inited with frameGrant := false }
    s.cs = true ∧ 1#16 ≠ 0 ∧ (1#16).toNat + (if true then 2 else 0) ≤ 512 ∧ (0x600#32).toNat % 512 = 0 ∧
    (0x600#32).toNat < s.pageCount.toNat * 512 ∧ s.frameGrant = false := by decide
theorem witness_ReadWritesHostOnlyOnReady :
    check (exec (.read false true 2 0) (withEnv [ok [], ok [], ok [], ok [1, 2]] [] inited))
      (fun t => decide (t.status = .ready)) ∧
    check (exec (.read false true 2 0) (withEnv [bad] [] inited)) (fun t => decide (t.status ≠ .ready)) := by decide
/-- The last unit of the array, for each unit. -/
theorem witness_AddressedErasesSucceed : let s := withEnv (oks 2) [] inited
    s.bus = ⟨true, []⟩ :: ⟨true, []⟩ :: [] ∧ s.pageCount ≠ 0 ∧
    (0x1FFE00#32).toNat % 512 = 0 ∧ (0x1FFE00#32).toNat + 512 ≤ s.pageCount.toNat * 512 ∧
    (0x1FF000#32).toNat % 4096 = 0 ∧ (0x1FF000#32).toNat + 4096 ≤ s.pageCount.toNat * 512 ∧
    (0x1E0000#32).toNat % 131072 = 0 ∧ (0x1E0000#32).toNat + 131072 ≤ s.pageCount.toNat * 512 := by decide
theorem witness_ChipEraseSucceeds : (withEnv (oks 1) [] inited).bus = ⟨true, []⟩ :: [] ∧
    (withEnv (oks 1) [] inited).pageCount ≠ 0 := by decide
theorem witness_EraseRejected : inited.cs = true ∧ (0x201#32).toNat % 512 ≠ 0 ∧ (0x1001#32).toNat % 4096 ≠ 0 ∧
    (0x20001#32).toNat % 131072 ≠ 0 ∧ inited.pageCount.toNat * 512 < (0x200000#32).toNat + 512 ∧
    inited.pageCount.toNat * 512 < (0x1FF200#32).toNat + 4096 ∧ 1#32 ≠ 0 := by decide
theorem witness_UnrecognisedEraseRejected : base.cs = true ∧ reqOp 0x7C00000000000000 = 3 ∧
    4 ≤ (reqGran 0x7C00000000000000).toNat ∧ reqOp 0x7000000000000000 = 3 ∧ 4 ≤ (reqGran 0x7000000000000000).toNat := by
  decide
theorem witness_ReservedRequestsRejected : inited.cs = true ∧ reqOp 0xA000000000000000 = 5 ∧
    reqOp 0xC000000000000000 = 6 ∧ reqOp 0xE000000000000000 = 7 := by decide
theorem witness_IsBusyAnswers : base.busBound = false ∧ inited.busBound = true ∧
    (withEnv [ok [], ok [0x2D]] [] inited).bus = ⟨true, []⟩ :: ⟨true, 0x2D :: []⟩ :: [] ∧
    (withEnv [ok [], bad] [] inited).bus = ⟨true, []⟩ :: ⟨false, []⟩ :: [] ∧
    (withEnv [bad] [] inited).bus = ⟨false, []⟩ :: [] := by decide
theorem witness_IsBusyLeavesHandle : check (exec .isBusy base) (fun _ => true) = true ∧ base.busBound = false := by decide

/-- The six requests that poll, and the transfers before the poll's first. -/
theorem startsPoll_all (tail : List BusAnswer) (ticks : List Tick) :
    AdmittedAll .busyPoll (fun k => withEnv (oks k ++ tail) ticks inited) ∧
    (∀ k i budget frames latched, Admitted (withEnv (oks k ++ tail) ticks inited) .busyPoll i budget frames latched →
      StartsPoll (withEnv (oks k ++ tail) ticks inited) i (.poll budget) budget frames latched) ∧
    ∃ latched, StartsPoll (withEnv (oks 0 ++ tail) ticks base) .init .initReady base.params.tResp [] latched :=
  ⟨admitted_all _ (by decide) (fun k => oks k ++ tail) _, fun _ _ _ _ _ h => .completion h, _,
    .initReady rfl (show (1 : BitVec 16) ≠ 0 by decide)⟩
/-- A ready device, one busy at the tick the wait began at and one busy six ticks later, a failing receive, a
failing transmit; the budgets of the six requests are 2 to 5. -/
theorem witness_PollFirstPass :
    (∀ c ∈ [([ok [], ok [0xAD]], (10 : Tick)), ([ok [], ok [0x2D]], 10), ([ok [], ok [0x2D]], 16), ([ok [], bad], 10),
        ([bad], 10)],
      AdmittedAll .busyPoll (fun k => withEnv (oks k ++ c.1) [10, c.2] inited)) ∧
    deviceBusy Params.r9 0xAD = false ∧ deviceBusy Params.r9 0x2D = true ∧
    [(2 : Tick), 3, 4, 5].all (fun b => decide ((10 : Tick) - 10 ≤ b ∧ b < (16 : Tick) - 10)) = true ∧
    [Params.r9.tResp, Params.r9.tProgE, Params.r9.tProgNe, Params.r9.tPger, Params.r9.tBlker, Params.r9.tSecer,
      Params.r9.tChiper].all (fun b => [(2 : Tick), 3, 4, 5].contains b) = true :=
  ⟨fun _ _ => (startsPoll_all _ _).1, by decide, by decide, by decide, by decide⟩
/-- A first reading at the tick the delay began at, and one six ticks later. -/
theorem witness_DelayCompletionStarts :
    (∀ now ∈ [(10 : Tick), 16], AdmittedAll .fixedDelay fun k => withEnv (oks k ++ []) [10, now] inited) ∧
    [(2 : Tick), 3, 4, 5].all (fun d => decide ((10 : Tick) - 10 < d ∧ d ≤ (16 : Tick) - 10)) = true :=
  ⟨fun _ _ => admitted_all _ (by decide) (fun k => oks k ++ []) _, by decide⟩
/-- A block in the middle of a completion poll or delay that began at tick 10. -/
def waiting (f : Flight) : State := { inited with status := .busyErase, seq := .gap, flight := some f, t0 := 10 }

/-- A completion poll and INIT's ready wait (T_RESP = 5): a ready device, a busy one at the budget and beyond it, a failing
receive, a failing transmit. -/
theorem witness_PollPassOutcomes : ∀ f ∈ [(Flight.poll 5), .initReady],
    ∀ c ∈ [([ok [], ok [0xAD]], (15 : Tick)), ([ok [], ok [0x2D]], 15), ([ok [], ok [0x2D]], 16), ([ok [], bad], 15),
      ([bad], 15), (initAnswers, 15)],
    let s := withEnv c.1 [c.2] (waiting f)
    s.resetIn = false ∧ s.seq ≠ .idle ∧ s.flight = some f ∧ (f = .poll 5 ∨ f = .initReady ∧ 5 = s.params.tResp) ∧
    s.ticks = c.2 :: [] ∧ s.bus = c.1 ++ [] ∧ deviceBusy s.params 0xAD = false ∧ deviceBusy s.params 0x2D = true ∧
    (c.2 - s.t0 ≤ 5 ↔ c.2 = 15) ∧ partOf s.params 0x26 = some ⟨4096, by decide⟩ ∧ binaryMode s.params 0xAD = true := by
  decide
/-- Readings that have and have not passed the delay; for INIT's delay also what its status read is then answered. -/
theorem witness_DelayPassOutcomes : ∀ f ∈ [(Flight.delay 2), .initConfig ⟨4096, by decide⟩], ∀ k ∈ [11, 12],
    ∀ b ∈ [[ok [], ok [0xAD]], [ok [], ok [0xAC]], [ok [], bad], [bad]], let now : Tick := BitVec.ofNat 32 k
    let s := withEnv b [now] (waiting f)
    s.resetIn = false ∧ s.seq ≠ .idle ∧ s.flight = some f ∧ s.ticks = now :: [] ∧ s.bus = b ∧ s.params.tConfig = 2 ∧
    (2 ≤ now - s.t0 ↔ k = 12) ∧ binaryMode s.params 0xAD = true ∧ binaryMode s.params 0xAC = false := by decide
/-- A page erase with its budget 2, so three status reads at ticks 11, 12 and 13, and INIT with its budget 5. -/
theorem witness_BusyPollExhaustsBudget :
    (let s := withEnv (oks 2 ++ (List.replicate ((2 : Tick).toNat + 1) [(⟨true, []⟩ : BusAnswer), ⟨true, [0x2D]⟩]).flatten ++ [])
        (10 :: (List.range ((2 : Tick).toNat + 1)).map (fun k => 10 + 1 + BitVec.ofNat 32 k) ++ []) inited;
      StartsPoll s (.erasePage .busyPoll 0x200) (.poll 2) 2 [[[0x81], [0x00, 0x02, 0x00]]]
        { s with status := .busyErase, cmd := { s.cmd with c0 := 0x81 }, adr := ⟨0x00, 0x02, 0x00⟩ } ∧
      s.resetIn = false ∧ deviceBusy s.params 0x2D = true ∧ s.ticks = [10, 11, 12, 13] ∧ s.bus.length = 8) ∧
    (let s := withEnv ([] ++ (List.replicate ((5 : Tick).toNat + 1) [(⟨true, []⟩ : BusAnswer), ⟨true, [0x2D]⟩]).flatten ++ [])
        (10 :: (List.range ((5 : Tick).toNat + 1)).map (fun k => 10 + 1 + BitVec.ofNat 32 k) ++ []) base;
      StartsPoll s .init .initReady 5 [] { s with busBound := true, csId := 1 } ∧ s.resetIn = false ∧
      deviceBusy s.params 0x2D = true) ∧ (5 : Tick).toNat + 1 < 2 ^ 32 :=
  ⟨⟨.completion (.erasePage 0x200 (by decide) (by decide) (by decide) (by decide)), by decide, by decide, by decide,
    by decide⟩, ⟨.initReady rfl (by decide), by decide, by decide⟩, by decide⟩
theorem witness_DelayEndsAtFirstPassedTick : let s := withEnv [] [10, 11, 14, 15] (waiting (.delay 3))
    s.resetIn = false ∧ s.seq ≠ .idle ∧ s.flight = some (.delay 3) ∧ s.ticks = [10, 11] ++ 14 :: [15] ∧
    ([10, 11].all fun x => decide (x - s.t0 < 3)) = true ∧ 3 ≤ (14 : Tick) - s.t0 := by decide

theorem witness_StepRunsDecoded : let s := { base with port := some (.request 0) }
    s.resetIn = false ∧ s.seq = .idle ∧ s.port = some (.request 0) ∧ decoded (.request 0) = some .init := by decide
/-- The invariants hold of an initialised block and of one in the middle of a poll, and a step of each succeeds. -/
theorem witness_StepKeepsInvariants : StateInv inited ∧ StateInv (waiting (.poll 2)) ∧
    check (step inited) (fun _ => true) = true ∧ check (step (waiting (.poll 2))) (fun _ => true) = true := by
  refine ⟨?_, ?_, by decide, by decide⟩ <;>
    exact ⟨by decide, by decide, by decide, by decide, by decide, by decide, by decide, by decide,
      by simp [FlightFits, waiting, inited, base, State.reset, Status.isBusy], by decide⟩
/-- The last pass of INIT's delay, on an uninitialised block that satisfies the invariants. -/
theorem witness_PageCountSetByReadyInit :
    let s : State := withEnv [ok [], ok [0xAD]] [103] { base with
      identity := ⟨0x1F, 0x26, 0, 1, 0⟩, flight := some (.initConfig ⟨4096, by decide⟩), seq := .wait, t0 := 101,
      busBound := true, csId := 1 }
    StateInv s ∧ s.pageCount = 0 ∧ check (step s) (fun t => decide (t.pageCount ≠ 0)) = true := by
  refine ⟨⟨by decide, by decide, by decide, by decide, by decide, by decide, by decide, by decide, ?_, by decide⟩,
    by decide, by decide⟩
  exact ⟨rfl, fun _ => ⟨rfl, by decide⟩⟩
theorem witness_ResetInputResets : { waiting (.poll 2) with resetIn := true }.resetIn = true := by decide
theorem witness_RequestHeldOffWhileBusy : let s := { waiting (.poll 2) with port := some (.request 0) }
    s.seq ≠ .idle ∧ check (step s) (fun _ => true) = true := by decide
/-- An INIT on an initialised block, which writes no latch, and one on a fresh block, which writes all four. -/
theorem witness_LatchesWrittenByInitAlone : [inited, base].all (fun b =>
    let s := { withEnv initAnswers [100] b with port := some (.request 0) }
    !s.resetIn && check (step s) (fun t => decide ((t.identity = s.identity ∧ t.pageCount = s.pageCount ↔ s.pageCount ≠ 0) ∧
      (t.busBound = s.busBound ∧ t.csId = s.csId ↔ s.busBound = true)))) = true := by decide
/-- For InputsAreNotWritten and TraceOnlyGrows: a step that succeeds. A READ held off by a delay does not let it write HostBuf. -/
theorem witness_InputsAreNotWritten : check (step { withEnv initAnswers [100] base with port := some (.request 0) })
    (fun _ => true) = true ∧
    check (step { withEnv [] [12] (waiting (.delay 2)) with port := some (.request 0x40A0000400000600) })
      (fun t => decide (t.status = .ready ∧ t.hostBuf = inited.hostBuf)) = true := by decide
theorem witness_EveryStepAnswersNext : let s := { inited with port := some (.frame false [0x50, 0x00, 0x02, 0x00]) }
    s.resetIn = false ∧ s.seq = .idle ∧ s.cs = true ∧ s.port = some (.frame false [0x50, 0x00, 0x02, 0x00]) ∧
    decodeFrame false [0x50, 0x00, 0x02, 0x00] = .error (.badOperand "BLKER") := by decide
theorem witness_GuardErrorsTouchNoBus : isWire (.erasePage .noWait 1) = false ∧ Instr.erasePage .noWait 1 ≠ .isBusy ∧
    inited.cs = true ∧
    check (exec (.erasePage .noWait 1) inited) (fun t => decide (t.flight = none ∧ t.status = .errorArgument)) = true ∧
    check (exec (.eraseUnrecognised 4) inited)
      (fun t => decide (t.flight = none ∧ t.status = .errorInstruction)) = true ∧
    check (exec (.read false true 1 0) { inited with frameGrant := false })
      (fun t => decide (t.flight = none ∧ t.status = .errorMemoryAllocation)) = true := by decide
theorem witness_UninitialisedTouchesNoBus : ∀ k ∈ [0x6E00000000000000, 0x7000000000000000, 0x8000000000000000],
    let w := BitVec.ofNat 64 k
    let s := { base with port := some (.request w) }
    s.pageCount = 0 ∧ s.cs = true ∧ s.resetIn = false ∧ s.seq = .idle ∧ s.port = some (.request w) ∧ s.busBound = false ∧
    [Instr.eraseChip .busyPoll 0, .eraseUnrecognised 4, .isBusy].contains (decodeRequest w) = true := by decide
/-- The invariants hold of a fresh block that a wire frame is presented to; its step succeeds and touches no bus. -/
theorem witness_UninitialisedFrame : let s := { base with port := some (.frame false [0xD7, 0x00]) }
    StateInv s ∧ s.pageCount = 0 ∧ decoded (.frame false [0xD7, 0x00]) = some .srrd ∧
    check (step s) (fun t => decide (t.trace = s.trace ∧ t.status = .errorArgument)) = true := by
  refine ⟨⟨by decide, by decide, by decide, by decide, by decide, by decide, by decide, by decide, trivial, by decide⟩,
    by decide, by decide, by decide⟩

end Sys2Proof.Tests
end

section
/-! The encodings (30_encoding.md): decoding inverts encoding on the request words, and the worked words of R96. -/

namespace Sys2Proof

/-- Granularities 4 to 7 are the unrecognised ones (R84). -/
theorem decodeErase_of_four_le_reqGran {w : BitVec 64} (h : 4 ≤ (reqGran w).toNat) :
    decodeErase w = .eraseUnrecognised (reqGran w) := by
  rw [decodeErase, if_neg, if_neg, if_neg, if_neg] <;> intro hgran <;> simp [hgran] at h

/-- Selectors 6 and 7 are reserved; the instruction keeps the selector's lowest bit (R83). -/
theorem decodeRequest_of_six_le_reqOp {w : BitVec 64} (h : 6 ≤ (reqOp w).toNat) :
    decodeRequest w = .reserved67 ((reqOp w).getLsbD 0) := by
  rw [decodeRequest, getLsbD_61_eq, if_neg, if_neg, if_neg, if_neg, if_neg, if_neg] <;> intro hop <;> simp [hop] at h

/-- A request word that encodes a well-formed instruction decodes to it: `op` selects the operation, for ERASE then `gran`
(R83, R84, R87), and every field reads back what was put in (R82). -/
theorem decode_request_of_encode {i : Instr} {w : BitVec 64} (hwf : WellFormed i) (henc : encode i = .request w) :
    decode (.request w) = .ok i := by
  rw [← henc]
  cases i with
  | init | write | read | isBusy | reserved5 => simp [encode, decode, decodeRequest, reqPolicy]
  | erasePage | eraseBlock | eraseSector | eraseChip =>
    simp [encode, decode, decodeRequest, decodeErase, eraseWord, reqPolicy]
  | eraseUnrecognised g =>
    have hg : 4 ≤ g.toNat := of_decide_eq_true hwf
    simp [encode, decode, decodeRequest, decodeErase_of_four_le_reqGran, hg]
  | reserved67 low => cases low <;> simp [encode, decode, decodeRequest_of_six_le_reqOp]
  | bufwr | progE | progNe | pgrd | pger | blker | secer | chiper | srrd | idrd | pscfg => cases henc

/-- Settles O4: each word of R96 is the encoding of the operation the rule writes, so it decodes to it. -/
theorem workedRequestWords : Obligations.WorkedRequestWords := by
  refine ⟨?_, ?_, ?_, ?_, ?_, ?_⟩ <;> exact decode_request_of_encode (by decide) (by decide)

end Sys2Proof
end

section
/-! The command encoder (40_encoder.md): what the address field is, and what its three bytes keep of it. -/

namespace Sys2Proof.Machine

/-- R111: with the offset inside its page, the shift and the `or` are a sum, so the field is the byte offset in 24 bits. -/
theorem addressField_eq_ofNat {off : Nat} (page : Nat) (hoff : off < 512) :
    addressField page off = BitVec.ofNat 24 (page * 512 + off) := by
  rw [addressField, ← Nat.shiftLeft_add_eq_or_of_lt hoff, Nat.shiftLeft_eq]

/-- The field wraps at page 2^15 only, so below that it determines the page and the offset. -/
theorem addressField_injective {page off page' off' : Nat} (hpage : page < 2 ^ 15) (hoff : off < 512)
    (hpage' : page' < 2 ^ 15) (hoff' : off' < 512) (h : addressField page off = addressField page' off') :
    page = page' ∧ off = off' := by
  rw [addressField_eq_ofNat page hoff, addressField_eq_ofNat page' hoff'] at h
  have hsum : (page * 512 + off) % 2 ^ 24 = (page' * 512 + off') % 2 ^ 24 := by
    simpa using congrArg BitVec.toNat h
  omega

/-- The field of a page's first byte is that page's byte offset; what lies above bit 23 is not sent. -/
theorem addressField_div_pageSize {a : BitVec 32} (haligned : a.toNat % 512 = 0) :
    addressField (a.toNat / pageSize) 0 = a.setWidth 24 := by
  rw [pageSize, addressField_eq_ofNat _ (by decide), Nat.add_zero,
    Nat.div_mul_cancel (Nat.dvd_of_mod_eq_zero haligned), BitVec.ofNat_toNat]

/-- The offset within the page is zero, so the nine bits below the page index are. -/
theorem getLsbD_addressField_zero (page : Nat) {i : Nat} (hi : i < 9) : (addressField page 0).getLsbD i = false := by
  simp [addressField, BitVec.getLsbD_ofNat, Nat.testBit_shiftLeft, hi]

/-- The three bytes, most significant first, are the whole field. -/
theorem splitField_append (a : BitVec 24) : (splitField a).a0 ++ (splitField a).a1 ++ (splitField a).a2 = a :=
  calc a.extractLsb' 16 8 ++ a.extractLsb' 8 8 ++ a.extractLsb' 0 8
      = a.extractLsb' 8 16 ++ a.extractLsb' 0 8 :=
        congrArg (· ++ _) (BitVec.extractLsb'_append_extractLsb'_eq_extractLsb' rfl)
    _ = a.extractLsb' 0 24 := BitVec.extractLsb'_append_extractLsb'_eq_extractLsb' rfl
    _ = a := BitVec.extractLsb'_eq_self

theorem splitField_injective {a b : BitVec 24} (h : splitField a = splitField b) : a = b := by
  rw [← splitField_append a, h, splitField_append]

/-- R112: the bytes of an aligned byte offset are its own, although they are those of its page index shifted back. -/
theorem toList_encAddrOfOffset {a : BitVec 32} (haligned : a.toNat % 512 = 0) :
    (encAddrOfOffset a.toNat).toList = [a.extractLsb' 16 8, a.extractLsb' 8 8, a.extractLsb' 0 8] := by
  simp [encAddrOfOffset, encAddr, addressField_div_pageSize haligned, splitField, AdrReg.toList,
    BitVec.extractLsb'_setWidth_of_le]

theorem encAddrOfOffset_a2 (address : Nat) : (encAddrOfOffset address).a2 = 0x00 := by
  refine BitVec.eq_of_getLsbD_eq fun i hi => ?_
  simp [encAddrOfOffset, encAddr, splitField, hi, getLsbD_addressField_zero _ (Nat.lt_succ_of_lt hi)]

theorem encAddrOfOffset_a1_getLsbD_zero (address : Nat) : (encAddrOfOffset address).a1.getLsbD 0 = false := by
  rw [encAddrOfOffset, encAddr, splitField, BitVec.getLsbD_extractLsb',
    getLsbD_addressField_zero _ (by decide), Bool.and_false]

/-- Settles O7: the field of an aligned offset is the offset, and neither the field nor its split loses anything in range. -/
theorem alignedAddressBytes : Obligations.AlignedAddressBytes := by
  constructor
  · intro a haligned _
    exact ⟨toList_encAddrOfOffset haligned, encAddrOfOffset_a2 _, encAddrOfOffset_a1_getLsbD_zero _⟩
  · intro page off page' off' hpage hoff hpage' hoff' h
    exact addressField_injective hpage hoff hpage' hoff' (splitField_injective h)

end Sys2Proof.Machine
end

section
/-! The Checksum Engine (41_checksum.md): the accumulator is all that is kept of the bytes before, and its values byte by
byte give the check value. -/

namespace Sys2Proof.Machine

theorem crcFrom_eq_foldl (c : BitVec 16) (bytes : List Byte) : crcFrom c bytes = bytes.foldl crcByte c := by
  induction bytes generalizing c with
  | nil => rfl
  | cons b bs ih => exact ih (crcByte c b)

/-- The engine is byte-serial (R146). -/
theorem crcFrom_append (c : BitVec 16) (before after : List Byte) :
    crcFrom c (before ++ after) = crcFrom (crcFrom c before) after := by
  simp only [crcFrom_eq_foldl, List.foldl_append]

theorem crc16_append (before after : List Byte) : crc16 (before ++ after) = crcFrom (crc16 before) after :=
  crcFrom_append crcInit before after

/-- The result is the last of the running values: there is no final exclusive or (R142). -/
theorem crcFrom_eq_of_scanl {c result : BitVec 16} {bytes : List Byte} {running : List (BitVec 16)}
    (h : bytes.scanl crcByte c = running ++ [result]) : crcFrom c bytes = result := by
  have last : (running ++ [result]).getLast? = some (crcFrom c bytes) := by
    rw [← h, List.getLast?_scanl, crcFrom_eq_foldl]
  simpa using last.symm

/-- R143, through the running values of R149. -/
theorem crc16_checkString : crc16 [0x31, 0x32, 0x33, 0x34, 0x35, 0x36, 0x37, 0x38, 0x39] = 0x4B37 := by
  have first : crc16 [0x31, 0x32, 0x33, 0x34, 0x35] = 0xA471 :=
    crcFrom_eq_of_scanl (running := [0xFFFF, 0x947E, 0xF595, 0x7A75, 0x30BA]) (by decide)
  have rest : crcFrom 0xA471 [0x36, 0x37, 0x38, 0x39] = 0x4B37 :=
    crcFrom_eq_of_scanl (running := [0xA471, 0x32E4, 0x9D73, 0x37DD]) (by decide)
  calc crc16 ([0x31, 0x32, 0x33, 0x34, 0x35] ++ [0x36, 0x37, 0x38, 0x39])
      = crcFrom (crc16 [0x31, 0x32, 0x33, 0x34, 0x35]) [0x36, 0x37, 0x38, 0x39] := crc16_append _ _
    _ = 0x4B37 := by rw [first, rest]

/-- R149, through its running values. -/
theorem crc16_deadBeef : crc16 [0xDE, 0xAD, 0xBE, 0xEF] = 0xC19B :=
  crcFrom_eq_of_scanl (running := [0xFFFF, 0x183F, 0xAD99, 0x1AED]) (by decide)

/-- Settles O8: the check value, and the worked values of no byte, one byte and four bytes. -/
theorem checksumCheckValue : Obligations.ChecksumCheckValue := by
  refine ⟨crc16_checkString, ?noByte, ?oneByte, crc16_deadBeef⟩
  case noByte => rfl
  case oneByte => decide

end Sys2Proof.Machine
end

section
/-! The requests that are refused by their selectors alone (43_operations.md R203, R207). -/

namespace Sys2Proof.Machine

/-- R234 with no scope open: nothing but the end of the operation is left. -/
theorem raise_eq_ended (e : ErrorKind) {s : State} (h : s.cs = true) : raise e s = ended e.status s :=
  raise_released e h

/-- What an operation wrote when it began does not outlast its end. -/
@[simp] theorem ended_startOperation (v busy : Status) (s : State) : ended v (startOperation busy s) = ended v s := rfl

@[simp] theorem ended_setSeq (v : Status) (p : Seq) (s : State) : ended v (setSeq p s) = ended v s := rfl

/-- R203: no guard stands before the error, so the page count decides nothing. -/
theorem exec_eraseUnrecognised (g : BitVec 3) {s : State} (h : s.cs = true) :
    exec (.eraseUnrecognised g) s = .next (ended .errorInstruction s) :=
  calc exec (.eraseUnrecognised g) s
      = .next (raise .instruction (startOperation .busyErase s)) := rfl
    _ = .next (ended .errorInstruction s) := by rw [raise_eq_ended _ (by simpa using h), ended_startOperation]; rfl

/-- What every reserved request does (R207). -/
theorem raise_argument_setSeq (p : Seq) {s : State} (h : s.cs = true) :
    raise .argument (setSeq p s) = ended .errorArgument s := by
  rw [raise_eq_ended _ (by simpa using h), ended_setSeq]; rfl

theorem exec_reserved5 {s : State} (h : s.cs = true) : exec .reserved5 s = .next (ended .errorArgument s) :=
  congrArg Host.Outcome.next (raise_argument_setSeq .guard h)

theorem exec_reserved67 (low : Bool) {s : State} (h : s.cs = true) :
    exec (.reserved67 low) s = .next (ended .errorArgument s) :=
  congrArg Host.Outcome.next (raise_argument_setSeq .guard h)

/-- R83: for ERASE the granularity decides which operation it is. -/
theorem decodeRequest_of_reqOp_three {w : BitVec 64} (h : reqOp w = 3) : decodeRequest w = decodeErase w := by
  simp [decodeRequest, h]

theorem decodeRequest_of_reqOp_five {w : BitVec 64} (h : reqOp w = 5) : decodeRequest w = .reserved5 := by
  simp [decodeRequest, h]

/-- Settles O37: the selectors choose the instruction, and its one error comes before every guard. -/
theorem unrecognisedEraseRejected : Obligations.UnrecognisedEraseRejected := by
  constructor
  · intro w hop hgran
    rw [decodeRequest_of_reqOp_three hop, decodeErase_of_four_le_reqGran hgran]
  · intro s g hcs
    exact exec_eraseUnrecognised g hcs

/-- Settles O38: selectors 5, 6 and 7 decode to the reserved requests, which end as soon as they begin. -/
theorem reservedRequestsRejected : Obligations.ReservedRequestsRejected := by
  refine ⟨fun w hop => decodeRequest_of_reqOp_five hop, ?six, ?seven, ?runs⟩
  case six =>
    intro w hop
    rw [decodeRequest_of_six_le_reqOp (by simp [hop]), hop]; rfl
  case seven =>
    intro w hop
    rw [decodeRequest_of_six_le_reqOp (by simp [hop]), hop]; rfl
  case runs =>
    intro s low hcs
    exact ⟨exec_reserved5 hcs, exec_reserved67 low hcs⟩

end Sys2Proof.Machine
end

section
/-! Wire frames and request words (30_encoding.md): what the frame decoder gives on an encoded frame, and which bits of a
request word its decoding looks at. -/

namespace Sys2Proof

theorem checked_of_wellFormed {i : Instr} (h : WellFormed i) : checked i = .ok i := if_pos h

/-- The format WF-A loses no address bit (R89, R90). -/
theorem decodeWfA_addressBytes {make : BitVec 24 → Instr} {a : BitVec 24} (h : WellFormed (make a)) :
    decodeWfA make (addressBytes a) = .ok (make a) := by
  simp only [decodeWfA, addressBytes, addressOf_slices]
  exact checked_of_wellFormed h

/-- The format WF-AR: the number of fill bytes is the number of bytes to receive (R117). -/
theorem decodeWfAR_addressBytes {a : BitVec 24} {n : Nat} (h : WellFormed (.pgrd a n)) :
    decodeWfAR (addressBytes a ++ 0#8 :: 0#8 :: 0#8 :: 0#8 :: List.replicate n 0#8) = .ok (.pgrd a n) := by
  simp only [decodeWfAR, addressBytes, List.cons_append, List.nil_append, addressOf_slices, List.length_replicate]
  exact checked_of_wellFormed h

/-- The format WF-AD: whether the last two bytes are a checksum is told beside the bytes (R89, R144). -/
theorem decodeWfAD_payload {payload : List Byte} {c : Option (BitVec 16)} (h : WellFormed (.bufwr payload c)) :
    decodeWfAD c.isSome (0#8 :: 0#8 :: 0#8 :: (payload ++ (c.map crcBytes).getD [])) = .ok (.bufwr payload c) := by
  cases c with
  | none => simpa [decodeWfAD] using checked_of_wellFormed h
  | some v => simpa [decodeWfAD, crcBytes] using checked_of_wellFormed h

/-- A wire frame that encodes a well-formed instruction decodes to it: its first byte selects the row, and the row's format
gives back the operands (R89). -/
theorem decode_frame_of_encode {i : Instr} {crc : Bool} {bytes : List Byte} (hwf : WellFormed i)
    (henc : encode i = .frame crc bytes) : decode (.frame crc bytes) = .ok i := by
  rw [← henc]
  cases i with
  | bufwr => exact decodeWfAD_payload hwf
  | progE | progNe | pger | blker | secer => exact decodeWfA_addressBytes hwf
  | pgrd => exact decodeWfAR_addressBytes hwf
  | chiper | srrd | idrd | pscfg => rfl
  | init | write | read | erasePage | eraseBlock | eraseSector | eraseChip | eraseUnrecognised | isBusy | reserved5
  | reserved67 => cases henc

/-- Settles O1: a code is a request word or a frame, and each of the two decoders inverts the encoder. -/
theorem decodeOfEncode : Obligations.DecodeOfEncode := by
  intro i hwf
  cases henc : encode i with
  | request w => exact decode_request_of_encode hwf henc
  | frame crc bytes => exact decode_frame_of_encode hwf henc

/-- Settles O5: each frame is the encoding of the instruction it is written for. -/
theorem workedWireFrames : Obligations.WorkedWireFrames := by
  refine ⟨?_, ?_, ?_, ?_, ?_⟩ <;> exact decode_frame_of_encode (by decide) (by decide)

/-! ### Which bits of a request word matter -/

theorem four_le_toNat_of_ne : ∀ g : BitVec 3, g ≠ 0 → g ≠ 1 → g ≠ 2 → g ≠ 3 → 4 ≤ g.toNat := by decide

theorem wellFormed_decodeErase (w : BitVec 64) : WellFormed (decodeErase w) := by
  unfold decodeErase
  split_ifs with h0 h1 h2 h3
  case neg => exact decide_eq_true (four_le_toNat_of_ne _ h0 h1 h2 h3)
  all_goals rfl

theorem wellFormed_decodeRequest (w : BitVec 64) : WellFormed (decodeRequest w) := by
  by_cases h : reqOp w = 3
  · rw [Machine.decodeRequest_of_reqOp_three h]
    exact wellFormed_decodeErase w
  · unfold decodeRequest
    split_ifs <;> rfl

/-- The mnemonic depends on the two selectors alone (R83). -/
theorem mnemonic_decodeRequest_congr {w v : BitVec 64} (hop : reqOp w = reqOp v) (hgran : reqGran w = reqGran v) :
    (decodeRequest w).mnemonic = (decodeRequest v).mnemonic := by
  simp only [decodeRequest, decodeErase, hop, hgran]
  split_ifs <;> rfl

/-- The request word that carries two selectors and nothing else. -/
def selectorWord (op gran : BitVec 3) : BitVec 64 := requestWord op gran 0 false false false 0 0

theorem mnemonic_decodeRequest (w : BitVec 64) :
    (decodeRequest w).mnemonic = (decodeRequest (selectorWord (reqOp w) (reqGran w))).mnemonic :=
  mnemonic_decodeRequest_congr (by simp [selectorWord]) (by simp [selectorWord])

/-- The table's masks cover the selectors at most (R80). -/
theorem and_mask_eq_selectorWord (w : BitVec 64) {row : RequestRow} (h : row ∈ requestRows) :
    w &&& row.mask = selectorWord (reqOp w) (reqGran w) &&& row.mask := by
  have hmask : 0xFC00000000000000#64 &&& row.mask = row.mask := by revert row; decide
  have hsel : w &&& 0xFC00000000000000#64 = selectorWord (reqOp w) (reqGran w) &&& 0xFC00000000000000#64 := by
    apply BitVec.eq_of_toNat_eq
    rw [selectorWord, Laws.TableRow.masked_top6, and_mask_top6, toNat_keepTop, reqOp, reqGran, toNat_slice, toNat_slice]
    omega
  rw [← hmask, ← BitVec.and_assoc, hsel, BitVec.and_assoc]

/-- On the words with selectors only the rows of the table are told apart by the mnemonic. -/
theorem selectorWord_mem_row : ∀ op gran : BitVec 3, ∀ row ∈ requestRows,
    selectorWord op gran &&& row.mask = row.value ↔ (decodeRequest (selectorWord op gran)).mnemonic = row.name := by
  decide +kernel

theorem exists_row_of_selectorWord : ∀ op gran : BitVec 3, ∃ row ∈ requestRows,
    row.name = (decodeRequest (selectorWord op gran)).mnemonic := by
  decide +kernel

/-- Settles O2: row and mnemonic both depend on the selectors alone, and of those there are 64. -/
theorem requestDecodingTotal : Obligations.RequestDecodingTotal := by
  intro w
  refine ⟨rfl, wellFormed_decodeRequest w, ?row, ?unique⟩
  case row =>
    rw [mnemonic_decodeRequest]
    exact exists_row_of_selectorWord _ _
  case unique =>
    intro row hrow
    rw [mnemonic_decodeRequest, and_mask_eq_selectorWord w hrow]
    exact selectorWord_mem_row _ _ row hrow

/-- A slice of a word is made of the bits at its places. -/
theorem extractLsb'_congr {w v : BitVec 64} {start len : Nat}
    (h : ∀ i, start ≤ i → i < start + len → w.getLsbD i = v.getLsbD i) :
    w.extractLsb' start len = v.extractLsb' start len := by
  refine BitVec.eq_of_getLsbD_eq fun i hi => ?_
  simp [hi, h (start + i) (by omega) (by omega)]

section Fields
variable {w v : BitVec 64}

theorem reqOp_congr (h : ∀ i, 61 ≤ i → w.getLsbD i = v.getLsbD i) : reqOp w = reqOp v :=
  extractLsb'_congr fun i hi _ => h i hi

theorem reqGran_congr (h : ∀ i, 58 ≤ i → w.getLsbD i = v.getLsbD i) : reqGran w = reqGran v :=
  extractLsb'_congr fun i hi _ => h i hi

theorem reqPolicy_congr (h : ∀ i, 56 ≤ i → i ≤ 57 → w.getLsbD i = v.getLsbD i) : reqPolicy w = reqPolicy v :=
  congrArg policyOfBits (extractLsb'_congr fun i hi hlt => h i hi (by omega))

theorem reqLength_congr (h : ∀ i, i < 48 → w.getLsbD i = v.getLsbD i) : reqLength w = reqLength v :=
  extractLsb'_congr fun i _ hlt => h i (by omega)

theorem reqAddress_congr (h : ∀ i, i < 32 → w.getLsbD i = v.getLsbD i) : reqAddress w = reqAddress v :=
  extractLsb'_congr fun i _ hlt => h i (by omega)

/-- Selectors other than WRITE, READ and ERASE look at no other field. -/
theorem decodeRequest_congr_of_reqOp (hop : reqOp w = reqOp v) (h1 : reqOp w ≠ 1) (h2 : reqOp w ≠ 2)
    (h3 : reqOp w ≠ 3) : decodeRequest w = decodeRequest v := by
  simp only [decodeRequest, getLsbD_61_eq, ← hop, h1, h2, h3, if_false]

theorem decodeRequest_congr_write (hop : reqOp w = reqOp v) (h : reqOp w = 1) (hpolicy : reqPolicy w = reqPolicy v)
    (hcrc : reqCrc w = reqCrc v) (hebw : reqEbw w = reqEbw v) (hbuf : reqBuf w = reqBuf v)
    (hlength : reqLength w = reqLength v) (haddress : reqAddress w = reqAddress v) :
    decodeRequest w = decodeRequest v := by
  simp [decodeRequest, ← hop, h, hpolicy, hlength, haddress, hcrc, hebw, hbuf]

theorem decodeRequest_congr_read (hop : reqOp w = reqOp v) (h : reqOp w = 2)
    (hcrc : reqCrc w = reqCrc v) (hbuf : reqBuf w = reqBuf v)
    (hlength : reqLength w = reqLength v) (haddress : reqAddress w = reqAddress v) :
    decodeRequest w = decodeRequest v := by
  simp [decodeRequest, ← hop, h, hlength, haddress, hcrc, hbuf]

theorem decodeRequest_congr_erase (hop : reqOp w = reqOp v) (h : reqOp w = 3) (hgran : reqGran w = reqGran v)
    (hpolicy : reqPolicy w = reqPolicy v) (haddress : reqAddress w = reqAddress v) :
    decodeRequest w = decodeRequest v := by
  simp only [Machine.decodeRequest_of_reqOp_three h, Machine.decodeRequest_of_reqOp_three (hop ▸ h), decodeErase, hgran, hpolicy, haddress]

theorem decodeRequest_congr_unrecognised (hop : reqOp w = reqOp v) (h : reqOp w = 3) (hgran : reqGran w = reqGran v)
    (h4 : 4 ≤ (reqGran w).toNat) : decodeRequest w = decodeRequest v := by
  rw [Machine.decodeRequest_of_reqOp_three h, Machine.decodeRequest_of_reqOp_three (hop ▸ h), decodeErase_of_four_le_reqGran h4,
    decodeErase_of_four_le_reqGran (hgran ▸ h4), hgran]

end Fields

/-- Settles O3: each operation reads its own fields, and a field is made of its own bits. -/
theorem unusedRequestFieldsIgnored : Obligations.UnusedRequestFieldsIgnored := by
  intro w v
  refine ⟨?reserved, ?noOperand, ?write, ?read, ?erase, ?unrecognised⟩
  case reserved =>
    intro h
    have hop : reqOp w = reqOp v := reqOp_congr fun i hi => h i (by omega)
    have hlength : reqLength w = reqLength v := reqLength_congr fun i hi => h i (by omega)
    have haddress : reqAddress w = reqAddress v := reqAddress_congr fun i hi => h i (by omega)
    have hpolicy : reqPolicy w = reqPolicy v := reqPolicy_congr fun i hi _ => h i (by omega)
    by_cases h1 : reqOp w = 1
    · exact decodeRequest_congr_write hop h1 hpolicy (h 55 (by omega)) (h 54 (by omega)) (h 53 (by omega)) hlength haddress
    by_cases h2 : reqOp w = 2
    · exact decodeRequest_congr_read hop h2 (h 55 (by omega)) (h 53 (by omega)) hlength haddress
    by_cases h3 : reqOp w = 3
    · exact decodeRequest_congr_erase hop h3 (reqGran_congr fun i hi => h i (by omega)) hpolicy haddress
    exact decodeRequest_congr_of_reqOp hop h1 h2 h3
  case noOperand =>
    intro hop h
    refine decodeRequest_congr_of_reqOp (reqOp_congr h) ?_ ?_ ?_ <;> intro hk <;> rw [hk] at hop <;> revert hop <;> decide
  case write =>
    intro hop h
    exact decodeRequest_congr_write (reqOp_congr fun i hi => h i (by omega)) hop
      (reqPolicy_congr fun i hi hle => h i (by omega)) (h 55 (by omega)) (h 54 (by omega)) (h 53 (by omega))
      (reqLength_congr fun i hi => h i (by omega)) (reqAddress_congr fun i hi => h i (by omega))
  case read =>
    intro hop h
    exact decodeRequest_congr_read (reqOp_congr fun i hi => h i (by omega)) hop (h 55 (by omega)) (h 53 (by omega))
      (reqLength_congr fun i hi => h i (by omega)) (reqAddress_congr fun i hi => h i (by omega))
  case erase =>
    intro hop _ h
    exact decodeRequest_congr_erase (reqOp_congr fun i hi => h i (by omega)) hop
      (reqGran_congr fun i hi => h i (by omega)) (reqPolicy_congr fun i hi _ => h i (by omega))
      (reqAddress_congr fun i hi => h i (by omega))
  case unrecognised =>
    intro hop hgran h
    exact decodeRequest_congr_unrecognised (reqOp_congr fun i hi => h i (by omega)) hop (reqGran_congr h) hgran

end Sys2Proof
end

section
/-! The address field's value (40_encoder.md R111), and what the Checksum Engine detects (41_checksum.md R145 to R148). -/

namespace Sys2Proof.Machine

/-- Settles O6: the three bytes are the field, and the field is the byte offset in 24 bits. -/
theorem addressFieldValue : Obligations.AddressFieldValue := by
  intro page off hoff
  rw [encAddr, splitField_append, addressField_eq_ofNat page hoff, BitVec.toNat_ofNat]

/-! ### One bit step and one byte step -/

theorem crcBit_eq (c : BitVec 16) : crcBit c = c >>> 1 ^^^ if c.getLsbD 0 then crcPoly else 0 := by
  unfold crcBit
  split <;> simp

/-- The polynomial has bit 15 set, and the shift leaves it clear: so bit 15 tells which of the two was done (R147 (a)). -/
theorem getLsbD_crcBit_15 (c : BitVec 16) : (crcBit c).getLsbD 15 = c.getLsbD 0 := by
  rw [crcBit_eq]
  cases c.getLsbD 0 <;> simp [crcPoly]

/-- R147 (a): with the polynomial taken out again, the shift is undone and bit 0 put back. -/
theorem crcBit_undo (c : BitVec 16) :
    c = ((crcBit c ^^^ (if (crcBit c).getLsbD 15 then 0xA001 else 0)) <<< 1) |||
      (if (crcBit c).getLsbD 15 then 1 else 0) := by
  have hshift : crcBit c ^^^ (if c.getLsbD 0 then 0xA001 else 0 : BitVec 16) = c >>> 1 := by
    rw [crcBit_eq, BitVec.xor_assoc]
    cases c.getLsbD 0 <;> simp [crcPoly]
  rw [getLsbD_crcBit_15, hshift]
  refine BitVec.eq_of_getLsbD_eq fun i hi => ?_
  cases i with
  | zero => cases h : c.getLsbD 0 <;> simp_all
  | succ n => cases c.getLsbD 0 <;> simp [hi, Nat.add_comm 1 n]

theorem crcBit_injective {c d : BitVec 16} (h : crcBit c = crcBit d) : c = d := by
  rw [crcBit_undo c, h, ← crcBit_undo d]

theorem crcBits_injective (n : Nat) {c d : BitVec 16} (h : crcBits n c = crcBits n d) : c = d := by
  induction n generalizing c d with
  | zero => exact h
  | succ n ih => exact crcBit_injective (ih h)

theorem crcByte_injective_left {c d : BitVec 16} {b : Byte} (h : crcByte c b = crcByte d b) : c = d := by
  rw [crcByte, crcByte] at h
  simpa using crcBits_injective 8 h

theorem crcByte_injective_right {c : BitVec 16} {a b : Byte} (h : crcByte c a = crcByte c b) : a = b := by
  rw [crcByte, crcByte] at h
  have hwide : a.zeroExtend 16 = b.zeroExtend 16 := by simpa using crcBits_injective 8 h
  simpa using congrArg (BitVec.setWidth 8) hwide

/-- Settles O9. -/
theorem checksumStepsInvertible : Obligations.ChecksumStepsInvertible :=
  ⟨fun c => ⟨getLsbD_crcBit_15 c, crcBit_undo c⟩, fun _ _ _ => crcByte_injective_left, fun _ _ _ => crcByte_injective_right⟩

/-! ### The whole input -/

theorem crcFrom_injective (bytes : List Byte) {c d : BitVec 16} (h : crcFrom c bytes = crcFrom d bytes) : c = d := by
  induction bytes generalizing c d with
  | nil => exact h
  | cons b bs ih => exact crcByte_injective_left (ih h)

/-- Settles O10: the bytes before leave equal accumulators, the changed byte different ones, and the bytes after keep them
apart. -/
theorem checksumDetectsOneByte : Obligations.ChecksumDetectsOneByte := by
  intro before after a b hab h
  rw [crc16_append, crc16_append] at h
  exact hab (crcByte_injective_right (crcFrom_injective after h))

/-- The bits shifted out decide alone whether the polynomial enters, so two of them cancel. -/
theorem crcBit_xor (c d : BitVec 16) : crcBit (c ^^^ d) = crcBit c ^^^ crcBit d := by
  have hpoly : ∀ x y : Bool, (if x ^^ y then crcPoly else 0) = (if x then crcPoly else 0) ^^^ if y then crcPoly else 0 := by
    decide
  rw [crcBit_eq, crcBit_eq, crcBit_eq, BitVec.ushiftRight_xor_distrib, BitVec.getLsbD_xor, hpoly]
  ac_rfl

theorem crcBits_xor (n : Nat) (c d : BitVec 16) : crcBits n (c ^^^ d) = crcBits n c ^^^ crcBits n d := by
  induction n generalizing c d with
  | zero => rfl
  | succ n ih => rw [crcBits, crcBit_xor, ih]; rfl

theorem crcByte_xor (c d : BitVec 16) (a b : Byte) : crcByte (c ^^^ d) (a ^^^ b) = crcByte c a ^^^ crcByte d b := by
  rw [crcByte, crcByte, crcByte, ← crcBits_xor]
  congr 1
  simp only [BitVec.truncate_eq_setWidth, BitVec.setWidth_xor]
  ac_rfl

/-- The engine is linear in the accumulator and the bytes together (R147 (d)). -/
theorem crcFrom_xor {a b : List Byte} (h : a.length = b.length) (c d : BitVec 16) :
    crcFrom (c ^^^ d) (List.zipWith (fun x y => x ^^^ y) a b) = crcFrom c a ^^^ crcFrom d b := by
  induction a generalizing b c d with
  | nil => cases b with
    | nil => rfl
    | cons => cases h
  | cons x a ih => cases b with
    | nil => cases h
    | cons y b =>
      rw [List.zipWith_cons_cons, crcFrom, crcByte_xor, ih (Nat.succ.inj h)]
      rfl

/-- Settles O11: a third input of zeros makes up for the initial value that each of the two brings in. -/
theorem checksumAffine : Obligations.ChecksumAffine := by
  intro a b h
  have hlen : (List.zipWith (fun x y => x ^^^ y) a b).length = (List.replicate a.length (0 : Byte)).length := by simp [h]
  have hzero : List.zipWith (fun x y => x ^^^ y) (List.zipWith (fun x y => x ^^^ y) a b) (List.replicate a.length (0 : Byte)) =
      List.zipWith (fun x y => x ^^^ y) a b := by
    apply List.ext_getElem <;> simp [h]
  have hinit : crcInit = crcInit ^^^ crcInit ^^^ crcInit := by decide
  calc crc16 (List.zipWith (fun x y => x ^^^ y) a b)
      = crcFrom (crcInit ^^^ crcInit ^^^ crcInit) (List.zipWith (fun x y => x ^^^ y)
          (List.zipWith (fun x y => x ^^^ y) a b) (List.replicate a.length 0)) := by rw [hzero, ← hinit]; rfl
    _ = crc16 a ^^^ crc16 b ^^^ crc16 (List.replicate a.length 0) := by rw [crcFrom_xor hlen, crcFrom_xor h]; rfl

/-! ### CrcCheck -/

theorem slices_eq_iff (c : BitVec 16) (hi lo : Byte) : hi = c.extractLsb' 8 8 ∧ lo = c.extractLsb' 0 8 ↔ c = hi ++ lo := by
  have hhi := hi.isLt
  have hlo := lo.isLt
  have hc := c.isLt
  simp only [← BitVec.toNat_inj, toNat_slice, toNat_append_eq_add]
  omega

/-- R145: the check compares the payload's checksum with the two bytes after it, high byte first. -/
theorem crcCheck_append_iff (payload : List Byte) (hi lo : Byte) :
    crcCheck (payload ++ [hi, lo]) payload.length = true ↔ crc16 payload = hi ++ lo := by
  rw [← slices_eq_iff]
  simp [crcCheck]

/-- Replacing one byte of a payload changes its checksum. -/
theorem crc16_set_ne {payload : List Byte} {k : Nat} {v : Byte} (hk : k < payload.length) (h : payload[k] ≠ v) :
    crc16 (payload.set k v) ≠ crc16 payload := by
  have hsplit : payload = payload.take k ++ payload[k] :: payload.drop (k + 1) := by simp
  rw [List.set_eq_take_append_cons_drop, if_pos hk]
  conv_rhs => rw [hsplit]
  exact checksumDetectsOneByte _ _ _ _ h.symm

/-- Settles O12: a changed payload byte changes the checksum but not the two bytes it is compared with, and a changed checksum
byte changes one of those but not the checksum. -/
theorem oneByteCorruptionFailsCheck : Obligations.OneByteCorruptionFailsCheck := by
  intro payload
  refine ⟨?passes, ?fails⟩
  case passes => exact (crcCheck_append_iff _ _ _).mpr (crcBytes_append _).symm
  case fails =>
    intro k v hk hne
    rw [← Bool.not_eq_true]
    by_cases hpayload : k < payload.length
    · rw [List.getElem_append_left hpayload] at hne
      rw [List.set_append_left _ _ hpayload, crcBytes]
      have hcheck := crcCheck_append_iff (payload.set k v) ((crc16 payload).extractLsb' 8 8) ((crc16 payload).extractLsb' 0 8)
      rw [List.length_set, crcBytes_append] at hcheck
      exact fun h => crc16_set_ne hpayload hne (hcheck.mp h)
    · rw [List.getElem_append_right (by omega)] at hne
      rw [List.set_append_right _ _ (by omega), crcBytes]
      have hplace : k - payload.length = 0 ∨ k - payload.length = 1 := by
        simp only [List.length_append, length_crcBytes] at hk
        omega
      rcases hplace with hplace | hplace <;>
        simp only [hplace, List.set_cons_zero, List.set_cons_succ, crcCheck_append_iff, ← slices_eq_iff]
      · exact fun h => hne (by simpa [hplace, crcBytes] using h.1.symm)
      · exact fun h => hne (by simpa [hplace, crcBytes] using h.2.symm)

end Sys2Proof.Machine
end

section
/-! What an operation can do between its guards and its end, whatever the environment answers. `Works` is the part that all
operations share: frames, tick readings and the scratch registers. Each operation then has one inversion lemma, which says how it
ends; the invariants are derived from these. -/

namespace Sys2Proof.Machine

/-- A state without what frames, tick readings and the encoder write: the scratch registers, FB, the phase, the wire trace and
the environment's answers. -/
def kept (s : State) : State :=
  { s with
    seq := .idle, cmd := ⟨0, 0, 0, 0⟩, adr := ⟨0, 0, 0⟩, sr := 0, cs := true, crc := 0, t0 := 0, fb := [], trace := [],
    bus := [], ticks := [], draws := 0 }

/-- FB in canonical form, with the indices it has (R34). -/
def FbFits (m : Memory) : Prop := Memory.wf m = true ∧ ∀ c ∈ m, c.1 < pageSize

/-- From `s` to `t` the block only runs whole frames, reads ticks and writes its scratch registers and FB. -/
structure Works (s t : State) : Prop where
  kept_eq : kept t = kept s
  released : s.cs = true → t.cs = true
  grows : ∃ evs, t.trace = s.trace ++ evs ∧ WellFramed evs
  fbFits : FbFits s.fb → FbFits t.fb

namespace Works
variable {s t u : State}

protected theorem refl (s : State) : Works s s := ⟨rfl, id, ⟨[], by simp, rfl⟩, id⟩

theorem trans (h : Works s t) (h' : Works t u) : Works s u := by
  obtain ⟨evs, htrace, hframed⟩ := h.grows
  obtain ⟨evs', htrace', hframed'⟩ := h'.grows
  refine ⟨h'.kept_eq.trans h.kept_eq, h'.released ∘ h.released, ⟨evs ++ evs', ?_, ?_⟩, h'.fbFits ∘ h.fbFits⟩
  · rw [htrace', htrace, List.append_assoc]
  · rw [WellFramed, scanTrace_append, hframed]
    exact hframed'

theorem identity (h : Works s t) : t.identity = s.identity := (congrArg State.identity h.kept_eq :)
theorem pageCount (h : Works s t) : t.pageCount = s.pageCount := (congrArg State.pageCount h.kept_eq :)
theorem busBound (h : Works s t) : t.busBound = s.busBound := (congrArg State.busBound h.kept_eq :)
theorem csId (h : Works s t) : t.csId = s.csId := (congrArg State.csId h.kept_eq :)
theorem status (h : Works s t) : t.status = s.status := (congrArg State.status h.kept_eq :)
theorem flight (h : Works s t) : t.flight = s.flight := (congrArg State.flight h.kept_eq :)
theorem params (h : Works s t) : t.params = s.params := (congrArg State.params h.kept_eq :)
theorem hostBuf (h : Works s t) : t.hostBuf = s.hostBuf := (congrArg State.hostBuf h.kept_eq :)

theorem wellFramed (h : Works s t) (hs : WellFramed s.trace) : WellFramed t.trace := by
  obtain ⟨evs, htrace, hframed⟩ := h.grows
  rw [htrace, WellFramed, scanTrace_append, hs]
  exact hframed

/-- A write of scratch registers alone. -/
theorem of_scratch (hkept : kept t = kept s) (hcs : t.cs = s.cs) (htrace : t.trace = s.trace) (hfb : t.fb = s.fb) :
    Works s t :=
  ⟨hkept, hcs ▸ id, ⟨[], by simp [htrace], rfl⟩, hfb ▸ id⟩

end Works

/-! ### The pieces of an operation -/

theorem works_setSeq (p : Seq) (s : State) : Works s (setSeq p s) := .of_scratch rfl rfl rfl rfl

theorem works_setCrc (v : BitVec 16) (s : State) : Works s (setCrc v s) := .of_scratch rfl rfl rfl rfl

theorem works_setSr (b : Byte) (s : State) : Works s (setSr b s) := .of_scratch rfl rfl rfl rfl

theorem works_latchCmd (bytes : List Byte) (s : State) : Works s (latchCmd bytes s) := .of_scratch rfl rfl rfl rfl

theorem works_latchAdr (a : AdrReg) (s : State) : Works s (latchAdr a s) := .of_scratch rfl rfl rfl rfl

theorem works_latchChecksum (c : Option (BitVec 16)) (s : State) : Works s (latchChecksum c s) := by
  cases c with
  | none => exact .refl s
  | some v => exact works_setCrc v s

theorem works_readTick (s : State) : Works s (readTick s) := ⟨rfl, id, ⟨_, readTick_trace s, rfl⟩, id⟩

theorem works_startWait (s : State) : Works s (startWait s) := ⟨rfl, id, ⟨_, startWait_trace s, rfl⟩, id⟩

/-- FB takes what one page read can deliver (R34, R117). -/
theorem works_storeFb {bytes : List Byte} (h : bytes.length ≤ pageSize) (s : State) : Works s (storeFb bytes s) := by
  refine ⟨rfl, id, ⟨[], by simp, rfl⟩, fun ⟨hwf, hlt⟩ => ⟨Memory.wf_writeBytes _ _ _ hwf, fun c hc => ?_⟩⟩
  rcases Memory.mem_writeBytes _ _ _ c hc with ⟨_, hin⟩ | ⟨d, hd, heq⟩
  · omega
  · exact heq ▸ hlt d hd

theorem works_runFrame (calls : List Call) (s : State) : Works s (runFrame calls s).2 := by
  obtain ⟨evs, hev, bus, draws, h⟩ := runFrame_state calls s
  rw [h]
  exact ⟨rfl, fun _ => rfl, ⟨_, rfl, wellFramed_append_frame (trace := []) rfl hev⟩, id⟩

/-! ### Frames -/

theorem works_frameAddressed (op : LogicalOp) (a : Nat) (s : State) : Works s (frameAddressed op a s).2 :=
  (works_latchCmd _ s).trans ((works_latchAdr _ _).trans (works_runFrame _ _))

theorem works_frameSequence (op : LogicalOp) (s : State) : Works s (frameSequence op s).2 :=
  (works_latchCmd _ s).trans (works_runFrame _ _)

theorem works_frameBufwr (payload : List Byte) (c : Option (BitVec 16)) (s : State) : Works s (frameBufwr payload c s).2 :=
  (works_latchCmd _ s).trans ((works_latchAdr _ _).trans (works_runFrame _ _))

theorem works_frameIdrd (s : State) : Works s (frameIdrd s).2 := (works_latchCmd _ s).trans (works_runFrame _ _)

theorem works_frameSrrd (s : State) : Works s (frameSrrd s).2 := by
  have hframe : Works s _ := (works_latchCmd _ s).trans
    (works_runFrame (callsWfR (encOp s.params .statusRead) 1) (latchCmd (encOp s.params .statusRead) s))
  simp only [frameSrrd]
  split
  · exact hframe
  · exact hframe.trans (works_setSr _ _)

/-- A page read that succeeds leaves the bytes received in FB (R117). -/
theorem framePgrd_some {a n : Nat} {s : State} {bytes : List Byte} (h : (framePgrd a n s).1 = some bytes) :
    (framePgrd a n s).2.fb = Memory.writeBytes s.fb 0 bytes := by
  obtain ⟨evs, hev, bus, draws, fb, hstate, hfb⟩ := framePgrd_state a n s
  rw [hstate]
  rw [h] at hfb
  exact hfb

theorem works_framePgrd {n : Nat} (hn : n ≤ pageSize) (a : Nat) (s : State) : Works s (framePgrd a n s).2 := by
  have hframe : Works s _ := (works_latchCmd _ s).trans ((works_latchAdr _ _).trans
    (works_runFrame (callsWfAR (encOp s.params .pageRead) (encAddrOfOffset a) n)
      (latchAdr (encAddrOfOffset a) (latchCmd (encOp s.params .pageRead) s))))
  have hlen : ∀ bytes, (framePgrd a n s).1 = some bytes → bytes.length = n := fun _ => framePgrd_length
  simp only [framePgrd] at hlen ⊢
  split
  · exact hframe
  · rename_i bytes hbytes
    rw [hbytes] at hlen
    exact hframe.trans (works_storeFb ((hlen bytes rfl).trans_le hn) _)

theorem frameSrrd_seq (s : State) : (frameSrrd s).2.seq = .gap := by
  obtain ⟨evs, hev, bus, draws, sr, h, -⟩ := frameSrrd_state s
  rw [h]

/-! ### Waits and completion policies -/

theorem works_pollOnce (budget : Tick) (s : State) : Works s (pollOnce budget s).2 ∧ (pollOnce budget s).2.seq = .gap := by
  have hframe : Works s (frameSrrd s).2 := works_frameSrrd s
  have hseq := frameSrrd_seq s
  simp only [pollOnce]
  split
  · exact ⟨hframe, hseq⟩
  · split
    · split <;> exact ⟨hframe.trans (works_readTick _), hseq⟩
    · exact ⟨hframe, hseq⟩

/-- How a WRITE or an ERASE ends once its guards have passed, or where it waits (R165, R190, R198). -/
inductive Finishes (s : State) : State → Prop where
  | timedOut {u : State} (works : Works s u) : Finishes s (raise .timeout u)
  | ready {u : State} (works : Works s u) : Finishes s (returnReady u)
  | polls {u : State} (budget : Tick) (works : Works s u) (phase : u.seq ≠ .idle) : Finishes s (park (.poll budget) u)
  | delays {u : State} (ticks : Tick) (works : Works s u) (phase : u.seq ≠ .idle) : Finishes s (park (.delay ticks) u)

theorem Finishes.of_works {s t u : State} (h : Works s u) (h' : Finishes u t) : Finishes s t := by
  cases h' with
  | timedOut w => exact .timedOut (h.trans w)
  | ready w => exact .ready (h.trans w)
  | polls budget w hseq => exact .polls budget (h.trans w) hseq
  | delays ticks w hseq => exact .delays ticks (h.trans w) hseq

theorem completePoll_finishes (budget : Tick) (s : State) : Finishes s (completePoll budget s) := by
  obtain ⟨hw, hseq⟩ := works_pollOnce budget s
  rcases completePoll_cases budget s with h | h | h <;> rw [h]
  · exact .ready hw
  · exact .timedOut hw
  · exact .polls budget hw (by rw [hseq]; decide)

theorem completeDelay_finishes (ticks : Tick) {s : State} (hseq : s.seq ≠ .idle) : Finishes s (completeDelay ticks s) := by
  rcases completeDelay_cases ticks s with ⟨-, h⟩ | ⟨-, h⟩ <;> rw [h]
  · exact .ready (works_readTick s)
  · exact .delays ticks (works_readTick s) hseq

/-- The guard GP keeps the fourth policy value away from here (R208). -/
theorem complete_finishes {policy : Policy} (h : policy ≠ .reserved) (t : Tick) (s : State) :
    Finishes s (complete policy t s) := by
  cases policy with
  | noWait => exact .ready (.refl s)
  | fixedDelay => exact .of_works (works_startWait s) (completeDelay_finishes t (by simp))
  | busyPoll => exact .of_works (works_startWait s) (completePoll_finishes t _)
  | reserved => exact absurd rfl h

/-! ### WRITE and ERASE -/

theorem raise_startOperation (e : ErrorKind) (v : Status) (s : State) : raise e (startOperation v s) = raise e s := by
  cases h : s.cs <;> simp [raise, h, startOperation, csHigh]

theorem raise_setSeq (e : ErrorKind) (p : Seq) (s : State) : raise e (setSeq p s) = raise e s := by
  cases h : s.cs <;> simp [raise, h, setSeq, csHigh]

theorem writeProgram_finishes {policy : Policy} (h : policy ≠ .reserved) (ebw : Bool) (address : Nat) (s : State) :
    Finishes s (writeProgram policy ebw address s) := by
  simp only [writeProgram]
  split
  · exact .timedOut (works_frameAddressed _ _ s)
  · exact .of_works (works_frameAddressed _ _ s) (complete_finishes h _ _)

theorem writeFrames_finishes {policy : Policy} (h : policy ≠ .reserved) (crc ebw : Bool) (length address : Nat)
    (s : State) : Finishes s (writeFrames policy crc ebw length address s) := by
  simp only [writeFrames]
  split
  · exact .timedOut ((works_latchChecksum _ s).trans (works_frameBufwr _ _ _))
  · exact .of_works ((works_latchChecksum _ s).trans (works_frameBufwr _ _ _)) (writeProgram_finishes h _ _ _)

theorem opWrite_cases (policy : Policy) (crc ebw buf : Bool) (length : BitVec 16) (address : BitVec 32) (s : State) :
    opWrite policy crc ebw buf length address s = raise .argument s ∨
      s.pageCount ≠ 0 ∧ Finishes (startOperation .busyWrite s) (opWrite policy crc ebw buf length address s) := by
  simp only [opWrite]
  split
  case isFalse => exact .inl (raise_startOperation _ _ s)
  case isTrue hguard =>
    obtain ⟨hinit, -, hpolicy⟩ := (guardWrite_iff _ _ _ _ _ _).mp hguard
    exact .inr ⟨hinit, writeFrames_finishes hpolicy _ _ _ _ _⟩

theorem eraseUnit_cases (u : Nat) (op : LogicalOp) (t : Tick) (policy : Policy) (address : BitVec 32) (s : State) :
    eraseUnit u op t policy address s = raise .argument s ∨
      s.pageCount ≠ 0 ∧ Finishes (startOperation .busyErase s) (eraseUnit u op t policy address s) := by
  simp only [eraseUnit]
  split
  case isFalse => exact .inl (raise_startOperation _ _ s)
  case isTrue hguard =>
    obtain ⟨hinit, -, hpolicy⟩ := (guardErase_iff _ _ _ _).mp hguard
    refine .inr ⟨hinit, ?_⟩
    split
    · exact .timedOut (works_frameAddressed _ _ _)
    · exact .of_works (works_frameAddressed _ _ _) (complete_finishes hpolicy _ _)

theorem opEraseChip_cases (policy : Policy) (address : BitVec 32) (s : State) :
    opEraseChip policy address s = raise .argument s ∨
      s.pageCount ≠ 0 ∧ Finishes (startOperation .busyErase s) (opEraseChip policy address s) := by
  simp only [opEraseChip]
  split
  case isFalse => exact .inl (raise_startOperation _ _ s)
  case isTrue hguard =>
    obtain ⟨hinit, -, hpolicy⟩ := (guardChip_iff _ _ _).mp hguard
    refine .inr ⟨hinit, ?_⟩
    split
    · exact .timedOut (works_frameSequence _ _)
    · exact .of_works (works_frameSequence _ _) (complete_finishes hpolicy _ _)

/-! ### READ -/

/-- How a READ of `length` payload bytes ends once its guards and its grant have passed (R195). -/
inductive ReadEnds (length : Nat) (s : State) : State → Prop where
  | timedOut {u : State} (works : Works s u) : ReadEnds length s (raise .timeout u)
  | mismatch {u : State} (works : Works s u) : ReadEnds length s (raise .checksum u)
  | copied {u : State} (works : Works s u) (filled : ∀ i, i < length → (Memory.read u.fb i).isSome = true) :
    ReadEnds length s (returnReady (storeHost (fbBytes u length) u))

theorem frameLength_eq (crc : Bool) (length : BitVec 16) :
    frameLength crc length = length.toNat + if crc then 2 else 0 := rfl

theorem readFrame_ends {crc : Bool} {length : BitVec 16} (hfits : frameLength crc length ≤ pageSize) (address : Nat)
    (s : State) : ReadEnds length.toNat s (readFrame crc length address s) := by
  have hw : Works s (framePgrd address (frameLength crc length) s).2 := works_framePgrd hfits address s
  simp only [readFrame]
  split
  · exact .timedOut hw
  · rename_i bytes hbytes
    have hw' := hw.trans (works_setSeq .verify _)
    have hfilled : ∀ i, i < length.toNat →
        (Memory.read (framePgrd address (frameLength crc length) s).2.fb i).isSome = true := by
      intro i hi
      have hlen := framePgrd_length hbytes
      rw [frameLength_eq] at hlen
      rw [framePgrd_some hbytes, Memory.read_writeBytes_inside _ _ (by omega)]
      rfl
    split
    · simp only [readVerify]
      split
      · exact .copied (hw'.trans (works_setCrc _ _)) hfilled
      · exact .mismatch (hw'.trans (works_setCrc _ _))
    · exact .copied hw' hfilled

theorem opRead_cases (crc buf : Bool) (length : BitVec 16) (address : BitVec 32) (s : State) :
    opRead crc buf length address s = raise .argument s ∨ opRead crc buf length address s = raise .memoryAllocation s ∨
      s.pageCount ≠ 0 ∧ ReadEnds length.toNat (startOperation .busyRead s) (opRead crc buf length address s) := by
  simp only [opRead]
  split
  case isFalse => exact .inl (raise_startOperation _ _ s)
  case isTrue hguard =>
    obtain ⟨hinit, -, -, hfits, -⟩ := (guardRead_iff _ _ _ _ _).mp hguard
    split
    · exact .inr (.inr ⟨hinit, readFrame_ends hfits _ _⟩)
    · exact .inr (.inl (raise_startOperation _ _ s))

/-! ### INIT -/

/-- How INIT goes on from its page-size step on (R186 steps 5 and 6). -/
inductive ModeEnds (part : PartPages) (s : State) : State → Prop where
  | failed {u : State} (works : Works s u) : ModeEnds part s (raise .initialization u)
  | finished {u : State} (works : Works s u) : ModeEnds part s (initFinish part u)
  | waits {u : State} (works : Works s u) (phase : u.seq ≠ .idle) : ModeEnds part s (park (.initConfig part) u)

theorem ModeEnds.of_works {part : PartPages} {s t u : State} (h : Works s u) (h' : ModeEnds part u t) :
    ModeEnds part s t := by
  cases h' with
  | failed w => exact .failed (h.trans w)
  | finished w => exact .finished (h.trans w)
  | waits w hseq => exact .waits (h.trans w) hseq

theorem initVerify_ends (part : PartPages) (s : State) : ModeEnds part s (initVerify part s) := by
  simp only [initVerify]
  split
  · exact .failed (works_frameSrrd s)
  · split
    · exact .finished (works_frameSrrd s)
    · exact .failed (works_frameSrrd s)

theorem initDelay_ends (part : PartPages) {s : State} (hseq : s.seq ≠ .idle) : ModeEnds part s (initDelay part s) := by
  simp only [initDelay, delayOnce, decide_eq_true_eq]
  split
  · exact .of_works (works_readTick s) (initVerify_ends part _)
  · exact .waits (works_readTick s) hseq

theorem initConfigure_ends (part : PartPages) (s : State) : ModeEnds part s (initConfigure part s) := by
  simp only [initConfigure]
  split
  · exact .failed (works_frameSequence _ s)
  · exact .of_works ((works_frameSequence _ s).trans (works_startWait _)) (initDelay_ends part (by simp))

theorem initMode_ends (part : PartPages) (s : State) : ModeEnds part s (initMode part s) := by
  simp only [initMode]
  split
  · exact .failed (works_frameSrrd s)
  · split
    · exact .finished (works_frameSrrd s)
    · exact .of_works (works_frameSrrd s) (initConfigure_ends part _)

/-- How INIT goes on from its ready wait on (R186 steps 2 to 6). -/
inductive InitEnds (s : State) : State → Prop where
  | timedOut {u : State} (works : Works s u) : InitEnds s (raise .timeout u)
  | waits {u : State} (works : Works s u) (phase : u.seq ≠ .idle) : InitEnds s (park .initReady u)
  | unknown {u : State} (bytes : List Byte) (works : Works s u) :
    InitEnds s (raise .initialization (latchIdentity (identityOf bytes) u))
  | known {u t : State} (bytes : List Byte) (part : PartPages) (works : Works s u)
    (maker : bytes.getD 0 0 = manufacturerId) (listed : partOf u.params (bytes.getD 1 0) = some part)
    (mode : ModeEnds part (latchIdentity (identityOf bytes) u) t) : InitEnds s t

theorem InitEnds.of_works {s t u : State} (h : Works s u) (h' : InitEnds u t) : InitEnds s t := by
  cases h' with
  | timedOut w => exact .timedOut (h.trans w)
  | waits w hseq => exact .waits (h.trans w) hseq
  | unknown bytes w => exact .unknown bytes (h.trans w)
  | known bytes part w maker listed mode => exact .known bytes part (h.trans w) maker listed mode

theorem initIdentify_ends (s : State) : InitEnds s (initIdentify s) := by
  have hw : Works s (frameIdrd s).2 := works_frameIdrd s
  simp only [initIdentify]
  split
  · exact .timedOut hw
  · rename_i bytes _
    simp only [initCheck, latchIdentity_params]
    split
    · exact .unknown bytes hw
    · rename_i hmaker
      split
      · exact .unknown bytes hw
      · rename_i part hpart
        exact .known bytes part hw (not_not.mp hmaker) hpart (initMode_ends part _)

theorem initPoll_ends (s : State) : InitEnds s (initPoll s) := by
  obtain ⟨hw, hseq⟩ := works_pollOnce s.params.tResp s
  simp only [initPoll]
  split
  · exact .of_works hw (initIdentify_ends _)
  · exact .timedOut hw
  · exact .timedOut hw
  · exact .waits hw (by rw [hseq]; decide)

theorem guardStraps_iff (s : State) : guardStraps s = true ↔ s.busOk = true ∧ s.csIdIn ≠ 0 := by
  rw [guardStraps, Bool.and_eq_true, decide_eq_true_iff]

theorem bindBus_setSeq (p : Seq) (s : State) : bindBus (setSeq p s) = setSeq p (bindBus s) := by
  rw [bindBus_eq, bindBus_eq]; rfl

theorem opInit_cases (s : State) :
    opInit s = raise .argument s ∨ s.busOk = true ∧ s.csIdIn ≠ 0 ∧ InitEnds (bindBus s) (opInit s) := by
  simp only [opInit]
  split
  case isFalse => exact .inl (raise_setSeq _ _ s)
  case isTrue hguard =>
    obtain ⟨hok, hid⟩ := (guardStraps_iff _).mp hguard
    refine .inr ⟨hok, hid, .of_works ?_ (initPoll_ends _)⟩
    rw [bindBus_setSeq]
    exact (works_setSeq _ _).trans (works_startWait _)

/-! ### Every instruction, and a step -/

/-- The errors an operation raises before it has touched the bus (R231; R188, R189, R194, R203, R207). -/
def ErrorKind.isGuard : ErrorKind → Bool
  | .argument | .instruction | .memoryAllocation => true
  | .initialization | .timeout | .checksum => false

/-- The WRITE and ERASE requests, the ones with a completion policy (R165). -/
def hasPolicy : Instr → Bool
  | .write _ _ _ _ _ _ | .erasePage _ _ | .eraseBlock _ _ | .eraseSector _ _ | .eraseChip _ _ => true
  | .bufwr _ _ | .progE _ | .progNe _ | .pgrd _ _ | .pger _ | .blker _ | .secer _ | .chiper | .srrd | .idrd | .pscfg
  | .init | .read _ _ _ _ | .eraseUnrecognised _ | .isBusy | .reserved5 | .reserved67 _ => false

/-- How the execution of an instruction ends, or where it waits. -/
inductive Executes (s : State) : Instr → State → Prop where
  | rejected {i : Instr} (e : ErrorKind) (guard : e.isGuard = true) (other : i ≠ .isBusy) : Executes s i (raise e s)
  | wire {i : Instr} {u : State} (kind : isWire i = true) (init : s.pageCount ≠ 0) (bound : s.busBound = true)
    (works : Works s u) : Executes s i (setSeq .idle u)
  | data {i : Instr} {t : State} (kind : hasPolicy i = true) (busy : Status) (isBusy : busy.isBusy = true)
    (init : s.pageCount ≠ 0) (ends : Finishes (startOperation busy s) t) : Executes s i t
  | read {t : State} (crc buf : Bool) (length : BitVec 16) (address : BitVec 32) (init : s.pageCount ≠ 0)
    (ends : ReadEnds length.toNat (startOperation .busyRead s) t) : Executes s (.read crc buf length address) t
  | init {t : State} (selected : s.csIdIn ≠ 0) (ends : InitEnds (bindBus s) t) : Executes s .init t
  | unbound (free : s.busBound = false) : Executes s .isBusy (respondBusy true s)
  | asked {u : State} (busy : Bool) (bound : s.busBound = true) (works : Works s u) :
    Executes s .isBusy (respondBusy busy (setSeq .idle u))

theorem standAlone_cases {guard : Bool} {frame : State → Option (List Byte) × State} {i : Instr} {s : State}
    (kind : isWire i = true) (hguard : guard = true → s.pageCount ≠ 0 ∧ s.busBound = true)
    (hw : Works s (frame s).2) : ∃ t, standAlone guard frame s = .next t ∧ Executes s i t := by
  refine ⟨_, rfl, ?_⟩
  split
  · rename_i h
    exact .wire kind (hguard h).1 (hguard h).2 hw
  · exact .rejected .argument rfl (by rintro rfl; cases kind)

theorem opIsBusy_executes (s : State) : Executes s .isBusy (opIsBusy s) := by
  simp only [opIsBusy]
  split
  case isFalse hfree => exact .unbound (by simpa using hfree)
  case isTrue hbound =>
    split
    · exact .asked _ hbound (works_frameSrrd s)
    · exact .asked _ hbound (works_frameSrrd s)

/-- An instruction executes to a next state, but for a page read that asks for more than FB holds (log 17). -/
theorem exec_executes (i : Instr) (s : State) (h : ∀ a n, i = .pgrd a n → n ≤ pageSize) :
    ∃ t, exec i s = .next t ∧ Executes s i t := by
  have hwire : guardWire s = true → s.pageCount ≠ 0 ∧ s.busBound = true := (guardWire_iff s).mp
  have hunit : ∀ u a, guardWireUnit u a s = true → s.pageCount ≠ 0 ∧ s.busBound = true := fun u a hg =>
    ((guardWireUnit_iff u a s).mp hg).1
  cases i with
  | bufwr payload c => exact standAlone_cases rfl hwire (works_frameBufwr _ _ s)
  | progE a | progNe a | pger a | blker a | secer a =>
    exact standAlone_cases rfl (hunit _ _) (works_frameAddressed _ _ s)
  | pgrd a n =>
    rw [exec, execPgrd, if_pos (h a n rfl)]
    exact standAlone_cases rfl (hunit _ _) (works_framePgrd (h a n rfl) _ s)
  | chiper | pscfg => exact standAlone_cases rfl hwire (works_frameSequence _ s)
  | srrd => exact standAlone_cases rfl hwire (works_frameSrrd s)
  | idrd => exact standAlone_cases rfl hwire (works_frameIdrd s)
  | init =>
    refine ⟨_, rfl, ?_⟩
    rcases opInit_cases s with h | ⟨-, hid, h⟩
    · rw [h]
      exact .rejected .argument rfl (by simp)
    · exact .init hid h
  | write policy crc ebw buf length address =>
    refine ⟨_, rfl, ?_⟩
    rcases opWrite_cases policy crc ebw buf length address s with h | ⟨hinit, h⟩
    · rw [h]
      exact .rejected .argument rfl (by simp)
    · exact .data rfl _ rfl hinit h
  | read crc buf length address =>
    refine ⟨_, rfl, ?_⟩
    rcases opRead_cases crc buf length address s with h | h | ⟨hinit, h⟩
    · rw [h]
      exact .rejected .argument rfl (by simp)
    · rw [h]
      exact .rejected .memoryAllocation rfl (by simp)
    · exact .read _ _ _ _ hinit h
  | erasePage policy address | eraseBlock policy address | eraseSector policy address =>
    refine ⟨_, rfl, ?_⟩
    rcases eraseUnit_cases _ _ _ policy address s with h | ⟨hinit, h⟩
    · rw [h]
      exact .rejected .argument rfl (by simp)
    · exact .data rfl _ rfl hinit h
  | eraseChip policy address =>
    refine ⟨_, rfl, ?_⟩
    rcases opEraseChip_cases policy address s with h | ⟨hinit, h⟩
    · rw [h]
      exact .rejected .argument rfl (by simp)
    · exact .data rfl _ rfl hinit h
  | eraseUnrecognised g =>
    refine ⟨_, rfl, ?_⟩
    rw [raise_startOperation]
    exact .rejected .instruction rfl (by simp)
  | isBusy => exact ⟨_, rfl, opIsBusy_executes s⟩
  | reserved5 | reserved67 =>
    refine ⟨_, rfl, ?_⟩
    rw [raise_setSeq]
    exact .rejected .argument rfl (by simp)

theorem executes_of_exec {i : Instr} {s t : State} (h : exec i s = .next t) : Executes s i t := by
  have hcount : ∀ a n, i = .pgrd a n → n ≤ pageSize := by
    rintro a n rfl
    by_contra hn
    rw [exec, execPgrd, if_neg hn] at h
    cases h
  obtain ⟨u, hu, hex⟩ := exec_executes i s hcount
  rw [h] at hu
  cases hu
  exact hex

end Sys2Proof.Machine
end

section
/-! What one step can do, and what every step keeps (10_state.md R36, R38 to R39; 43_operations.md R185). -/

namespace Sys2Proof.Machine

/-! ### What a presented code decodes to -/

/-- What the decoder of a row's format answers, if it answers an instruction: a wire command within its operand ranges. -/
def WireAnswer (r : Except DecodeError Instr) : Prop := ∀ i, r = .ok i → isWire i = true ∧ WellFormed i

theorem wireAnswer_error (e : DecodeError) : WireAnswer (.error e) := nofun

theorem wireAnswer_checked {i : Instr} (h : isWire i = true) : WireAnswer (checked i) := by
  unfold checked
  split
  · rintro _ ⟨⟩
    exact ⟨h, ‹_›⟩
  · exact wireAnswer_error _

theorem wireAnswer_decodeWfA {make : BitVec 24 → Instr} (h : ∀ a, isWire (make a) = true) (rest : List Byte) :
    WireAnswer (decodeWfA make rest) := by
  unfold decodeWfA
  split
  · exact wireAnswer_checked (h _)
  · exact wireAnswer_error _

theorem wireAnswer_decodeWfAD (crc : Bool) (rest : List Byte) : WireAnswer (decodeWfAD crc rest) := by
  unfold decodeWfAD
  split
  · split
    · split
      · exact wireAnswer_checked rfl
      · exact wireAnswer_error _
    · exact wireAnswer_checked rfl
  · exact wireAnswer_error _

theorem wireAnswer_decodeWfAR (rest : List Byte) : WireAnswer (decodeWfAR rest) := by
  unfold decodeWfAR
  split
  · exact wireAnswer_checked rfl
  · exact wireAnswer_error _

theorem wireAnswer_decodeFixed {i : Instr} (h : isWire i = true) (hwf : WellFormed i) (shape : Bool) :
    WireAnswer (decodeFixed i shape) := by
  unfold decodeFixed
  split
  · rintro _ ⟨⟩
    exact ⟨h, hwf⟩
  · exact wireAnswer_error _

theorem wireAnswer_ite {p : Prop} [Decidable p] {r r' : Except DecodeError Instr} (h : WireAnswer r) (h' : WireAnswer r') :
    WireAnswer (if p then r else r') := by
  split <;> assumption

/-- A frame decodes to a wire command within its operand ranges, or to nothing (R89, R114 to R124). -/
theorem wireAnswer_decodeFrame (crc : Bool) (bytes : List Byte) : WireAnswer (decodeFrame crc bytes) := by
  cases bytes with
  | nil => exact wireAnswer_error _
  | cons op rest =>
    exact wireAnswer_ite (wireAnswer_decodeWfAD crc rest) <|
      wireAnswer_ite (wireAnswer_decodeWfA (fun _ => rfl) rest) <|
      wireAnswer_ite (wireAnswer_decodeWfA (fun _ => rfl) rest) <|
      wireAnswer_ite (wireAnswer_decodeWfAR rest) <|
      wireAnswer_ite (wireAnswer_decodeWfA (fun _ => rfl) rest) <|
      wireAnswer_ite (wireAnswer_decodeWfA (fun _ => rfl) rest) <|
      wireAnswer_ite (wireAnswer_decodeWfA (fun _ => rfl) rest) <|
      wireAnswer_ite (wireAnswer_decodeFixed rfl rfl _) <|
      wireAnswer_ite (wireAnswer_decodeFixed rfl rfl _) <|
      wireAnswer_ite (wireAnswer_decodeFixed rfl rfl _) <|
      wireAnswer_ite (wireAnswer_decodeFixed rfl rfl _) (wireAnswer_error _)

theorem wellFormed_of_decode {c : Code} {i : Instr} (h : decode c = .ok i) : WellFormed i := by
  cases c with
  | request w =>
    cases h
    exact wellFormed_decodeRequest w
  | frame crc bytes => exact (wireAnswer_decodeFrame crc bytes i h).2

/-- Only a request word decodes to a request (R91). -/
theorem request_of_decode {c : Code} {i : Instr} (h : decode c = .ok i) (hi : isWire i = false) :
    ∃ w, c = .request w ∧ decodeRequest w = i := by
  cases c with
  | request w => exact ⟨w, rfl, Except.ok.inj h⟩
  | frame crc bytes => exact absurd (wireAnswer_decodeFrame crc bytes i h).1 (by simp [hi])

theorem count_le_of_wellFormed {i : Instr} (h : WellFormed i) (a : BitVec 24) (n : Nat) (hi : i = .pgrd a n) :
    n ≤ pageSize := by
  subst hi
  exact (of_decide_eq_true h).2.2

/-! ### One step -/

/-- What a step does (R185, R260, R268). -/
inductive Steps (s : State) : State → Prop where
  | resets (asserted : s.resetIn = true) : Steps s (resetBlock s)
  | rests : Steps s s
  | rejects (crc : Bool) (bytes : List Byte) (idle : s.seq = .idle) (port : s.port = some (.frame crc bytes)) :
    Steps s (raise .argument (accept s))
  | accepts {c : Code} {i : Instr} {t : State} (released : s.resetIn = false) (idle : s.seq = .idle)
    (port : s.port = some c) (decodes : decode c = .ok i) (runs : Executes (accept s) i t) : Steps s t
  | goesOn {f : Flight} (released : s.resetIn = false) (busy : s.seq ≠ .idle) (waiting : s.flight = some f) :
    Steps s (resume f (unpark s))

theorem step_of_decode {s : State} {c : Code} {i : Instr} (hreset : s.resetIn = false) (hidle : s.seq = .idle)
    (hport : s.port = some c) (hdecode : decode c = .ok i) : step s = exec i (accept s) := by
  simp [step, fetch, hreset, hidle, hport, hdecode]

theorem step_of_decode_error {s : State} {c : Code} {e : DecodeError} (hreset : s.resetIn = false) (hidle : s.seq = .idle)
    (hport : s.port = some c) (hdecode : decode c = .error e) : step s = .next (raise .argument (accept s)) := by
  simp [step, fetch, hreset, hidle, hport, hdecode, rejectFrame]

theorem step_of_flight {s : State} {f : Flight} (hreset : s.resetIn = false) (hbusy : s.seq ≠ .idle)
    (hflight : s.flight = some f) : step s = .next (resume f (unpark s)) := by
  simp [step, hreset, hbusy, hflight]

theorem exists_step (s : State) : ∃ t, step s = .next t ∧ Steps s t := by
  cases hreset : s.resetIn with
  | true => exact ⟨_, by simp [step, hreset], .resets hreset⟩
  | false =>
    by_cases hidle : s.seq = .idle
    · cases hport : s.port with
      | none => exact ⟨s, by simp [step, fetch, hreset, hidle, hport], .rests⟩
      | some c =>
        cases hdecode : decode c with
        | ok i =>
          obtain ⟨t, ht, hex⟩ := exec_executes i (accept s) (count_le_of_wellFormed (wellFormed_of_decode hdecode))
          exact ⟨t, (step_of_decode hreset hidle hport hdecode).trans ht, .accepts hreset hidle hport hdecode hex⟩
        | error e =>
          refine ⟨_, step_of_decode_error hreset hidle hport hdecode, ?_⟩
          cases c with
          | request w => cases hdecode
          | frame crc bytes => exact .rejects crc bytes hidle hport
    · cases hflight : s.flight with
      | none => exact ⟨s, by simp [step, hreset, hidle, hflight], .rests⟩
      | some f => exact ⟨_, step_of_flight hreset hidle hflight, .goesOn hreset hidle hflight⟩

theorem steps_of_step {s t : State} (h : step s = .next t) : Steps s t := by
  obtain ⟨u, hu, hsteps⟩ := exists_step s
  rw [h] at hu
  cases hu
  exact hsteps

theorem acceptsRequest_of_decode {s : State} {c : Code} {i : Instr} (hreset : s.resetIn = false) (hidle : s.seq = .idle)
    (hport : s.port = some c) (hdecode : decode c = .ok i) (hi : isWire i = false) : AcceptsRequest s i := by
  obtain ⟨w, rfl, hw⟩ := request_of_decode hdecode hi
  exact ⟨hreset, hidle, w, hport, hw⟩

/-- Settles O47. -/
theorem stepRunsDecoded : Obligations.StepRunsDecoded := fun _ _ _ hreset hidle hport hdecode =>
  ⟨wellFormed_of_decode hdecode, step_of_decode hreset hidle hport hdecode⟩

/-- Settles O53: every case of a step ends in a next state, because no decoded page read is too long for FB. -/
theorem everyStepAnswersNext : Obligations.EveryStepAnswersNext := by
  refine ⟨fun s => ?total, fun s crc bytes e hreset hidle hcs hport hdecode => ?frame⟩
  case total =>
    obtain ⟨t, ht, -⟩ := exists_step s
    exact ⟨t, ht⟩
  case frame =>
    rw [step_of_decode_error hreset hidle hport hdecode, raise_eq_ended _ (by exact hcs)]
    rfl

/-! ### The wire trace and the inputs -/

/-- What no operation writes: the inputs, and what the host presents (R39). -/
def inputs (s : State) : Params × Bool × BitVec 16 × Bool × Bool × Option Code :=
  (s.params, s.busOk, s.csIdIn, s.frameGrant, s.resetIn, s.port)

/-- The inputs stand and the wire trace has at most grown. -/
def Continues (s t : State) : Prop := inputs t = inputs s ∧ s.trace <+: t.trace

theorem Continues.trans {s t u : State} (h : Continues s t) (h' : Continues t u) : Continues s u :=
  ⟨h'.1.trans h.1, h.2.trans h'.2⟩

theorem Works.continues {s t : State} (h : Works s t) : Continues s t := by
  obtain ⟨evs, htrace, -⟩ := h.grows
  exact ⟨(congrArg inputs h.kept_eq :), htrace ▸ List.prefix_append _ _⟩

theorem continues_raise (e : ErrorKind) (s : State) : Continues s (raise e s) := by
  refine ⟨by simp [inputs], ?_⟩
  rw [raise_trace]
  split
  · exact List.prefix_rfl
  · exact List.prefix_append _ _

theorem continues_latchIdentity (id : Identity) (s : State) : Continues s (latchIdentity id s) := by
  rw [latchIdentity_eq]
  exact ⟨rfl, List.prefix_rfl⟩

theorem continues_initFinish (part : PartPages) (s : State) : Continues s (initFinish part s) := by
  rw [initFinish, latchPages_eq]
  exact ⟨rfl, List.prefix_rfl⟩

theorem continues_bindBus (s : State) : Continues s (bindBus s) := by
  rw [bindBus_eq]
  exact ⟨rfl, List.prefix_rfl⟩

theorem Finishes.continues {s t : State} (h : Finishes s t) : Continues s t := by
  cases h with
  | timedOut w => exact w.continues.trans (continues_raise _ _)
  | ready w => exact w.continues
  | polls _ w _ => exact w.continues
  | delays _ w _ => exact w.continues

theorem ReadEnds.continues {n : Nat} {s t : State} (h : ReadEnds n s t) : Continues s t := by
  cases h with
  | timedOut w => exact w.continues.trans (continues_raise _ _)
  | mismatch w => exact w.continues.trans (continues_raise _ _)
  | copied w _ => exact w.continues

theorem ModeEnds.continues {part : PartPages} {s t : State} (h : ModeEnds part s t) : Continues s t := by
  cases h with
  | failed w => exact w.continues.trans (continues_raise _ _)
  | finished w => exact w.continues.trans (continues_initFinish _ _)
  | waits w _ => exact w.continues

theorem InitEnds.continues {s t : State} (h : InitEnds s t) : Continues s t := by
  cases h with
  | timedOut w => exact w.continues.trans (continues_raise _ _)
  | waits w _ => exact w.continues
  | unknown _ w => exact w.continues.trans ((continues_latchIdentity _ _).trans (continues_raise _ _))
  | known _ _ w _ _ mode => exact w.continues.trans ((continues_latchIdentity _ _).trans mode.continues)

theorem Executes.continues {i : Instr} {s t : State} (h : Executes s i t) : Continues s t := by
  cases h with
  | rejected e _ _ => exact continues_raise e s
  | wire _ _ _ w => exact w.continues
  | data _ _ _ _ ends => exact ends.continues
  | read _ _ _ _ _ ends => exact ends.continues
  | init _ ends => exact (continues_bindBus s).trans ends.continues
  | unbound _ => exact ⟨rfl, List.prefix_rfl⟩
  | asked _ _ w => exact w.continues

theorem resume_continues (f : Flight) {s : State} (h : s.seq ≠ .idle) : Continues s (resume f s) := by
  cases f with
  | initReady => exact (initPoll_ends s).continues
  | initConfig part => exact (initDelay_ends part h).continues
  | poll budget => exact (completePoll_finishes budget s).continues
  | delay ticks => exact (completeDelay_finishes ticks h).continues

theorem continues_resetBlock (s : State) : Continues s (resetBlock s) := by
  unfold resetBlock
  split
  · exact ⟨rfl, List.prefix_rfl⟩
  · exact ⟨rfl, List.prefix_append _ _⟩

/-- A step changes no input but the port, which is free again once its code is accepted. -/
theorem Steps.continues {s t : State} (h : Steps s t) : Continues s t ∨ s.seq = .idle ∧ Continues (accept s) t := by
  cases h with
  | resets _ => exact .inl (continues_resetBlock s)
  | rests => exact .inl ⟨rfl, List.prefix_rfl⟩
  | rejects _ _ hidle _ => exact .inr ⟨hidle, continues_raise _ _⟩
  | accepts _ hidle _ _ runs => exact .inr ⟨hidle, runs.continues⟩
  | goesOn _ hbusy _ => exact .inl (resume_continues _ (s := unpark s) hbusy)

/-- Settles O59. -/
theorem traceOnlyGrows : Obligations.TraceOnlyGrows := by
  intro s t h
  have hprefix : s.trace <+: t.trace := by
    rcases (steps_of_step h).continues with h | ⟨-, h⟩ <;> exact h.2
  obtain ⟨evs, hevs⟩ := hprefix
  exact ⟨evs, hevs.symm⟩

/-- Settles O52: away from IDLE a step accepts nothing. -/
theorem requestHeldOffWhileBusy : Obligations.RequestHeldOffWhileBusy := by
  intro s t hbusy h
  rcases (steps_of_step h).continues with h | ⟨hidle, -⟩
  · exact (congrArg (·.2.2.2.2.2) h.1 :)
  · exact absurd hidle hbusy

/-! ### HostBuf and the latches -/

/-- The latches of INIT (R21, R22, R23). -/
def latches (s : State) : Identity × BitVec 16 × Bool × BitVec 16 := (s.identity, s.pageCount, s.busBound, s.csId)

theorem Works.latches {s t : State} (h : Works s t) : latches t = latches s := (congrArg Machine.latches h.kept_eq :)

theorem latches_raise (e : ErrorKind) (s : State) : latches (raise e s) = latches s := by simp [latches]

theorem Finishes.latches {s t : State} (h : Finishes s t) : latches t = latches s := by
  cases h with
  | timedOut w => exact (latches_raise _ _).trans w.latches
  | ready w => exact w.latches
  | polls _ w _ => exact w.latches
  | delays _ w _ => exact w.latches

theorem ReadEnds.latches {n : Nat} {s t : State} (h : ReadEnds n s t) : latches t = latches s := by
  cases h with
  | timedOut w => exact (latches_raise _ _).trans w.latches
  | mismatch w => exact (latches_raise _ _).trans w.latches
  | copied w _ => exact w.latches

theorem Finishes.hostBuf {s t : State} (h : Finishes s t) : t.hostBuf = s.hostBuf := by
  cases h with
  | timedOut w => exact (raise_hostBuf _ _).trans w.hostBuf
  | ready w => exact w.hostBuf
  | polls _ w _ => exact w.hostBuf
  | delays _ w _ => exact w.hostBuf

theorem ModeEnds.hostBuf {part : PartPages} {s t : State} (h : ModeEnds part s t) : t.hostBuf = s.hostBuf := by
  cases h with
  | failed w => exact (raise_hostBuf _ _).trans w.hostBuf
  | finished w => simp [initFinish, w.hostBuf]
  | waits w _ => exact w.hostBuf

theorem InitEnds.hostBuf {s t : State} (h : InitEnds s t) : t.hostBuf = s.hostBuf := by
  cases h with
  | timedOut w => exact (raise_hostBuf _ _).trans w.hostBuf
  | waits w _ => exact w.hostBuf
  | unknown _ w => simp [w.hostBuf]
  | known _ _ w _ _ mode => simp [mode.hostBuf, w.hostBuf]

/-- READ alone writes HostBuf (R30). -/
theorem Executes.hostBuf {i : Instr} {s t : State} (h : Executes s i t) :
    t.hostBuf = s.hostBuf ∨ ∃ crc buf length address, i = .read crc buf length address := by
  cases h with
  | rejected e _ _ => exact .inl (raise_hostBuf e s)
  | wire _ _ _ w => exact .inl w.hostBuf
  | data _ _ _ _ ends => exact .inl ends.hostBuf
  | read crc buf length address _ _ => exact .inr ⟨crc, buf, length, address, rfl⟩
  | init _ ends => exact .inl (ends.hostBuf.trans (bindBus_hostBuf s))
  | unbound _ => exact .inl rfl
  | asked _ _ w => exact .inl w.hostBuf

theorem resume_hostBuf (f : Flight) {s : State} (h : s.seq ≠ .idle) : (resume f s).hostBuf = s.hostBuf := by
  cases f with
  | initReady => exact (initPoll_ends s).hostBuf
  | initConfig part => exact (initDelay_ends part h).hostBuf
  | poll budget => exact (completePoll_finishes budget s).hostBuf
  | delay ticks => exact (completeDelay_finishes ticks h).hostBuf

theorem resetBlock_hostBuf (s : State) : (resetBlock s).hostBuf = s.hostBuf := by
  unfold resetBlock
  split <;> rfl

/-- Settles O58. -/
theorem inputsAreNotWritten : Obligations.InputsAreNotWritten := by
  intro s t h
  have hsteps := steps_of_step h
  have hinputs : inputs t = inputs s ∨ inputs t = inputs (accept s) := by
    rcases hsteps.continues with h | ⟨-, h⟩
    · exact .inl h.1
    · exact .inr h.1
  have hfields : t.params = s.params ∧ t.busOk = s.busOk ∧ t.csIdIn = s.csIdIn ∧ t.frameGrant = s.frameGrant ∧
      t.resetIn = s.resetIn := by
    rcases hinputs with h | h <;> simp only [inputs, Prod.mk.injEq, accept_params, accept_busOk, accept_csIdIn,
      accept_frameGrant, accept_resetIn] at h <;> tauto
  obtain ⟨hparams, hok, hid, hgrant, hreset⟩ := hfields
  refine ⟨hparams, hok, hid, hgrant, hreset, ?_⟩
  cases hsteps with
  | resets _ => exact .inl (resetBlock_hostBuf s)
  | rests => exact .inl rfl
  | rejects _ _ _ _ => exact .inl (raise_hostBuf _ _)
  | accepts hreset hidle hport hdecode runs =>
    rcases runs.hostBuf with h | ⟨crc, buf, length, address, rfl⟩
    · exact .inl h
    · exact .inr ⟨crc, buf, length, address, acceptsRequest_of_decode hreset hidle hport hdecode rfl⟩
  | goesOn _ hbusy _ => exact .inl (resume_hostBuf _ (s := unpark s) hbusy)

/-- INIT's page-size step writes no latch but `pageCount`, that one only while it is 0, and then ends in Ready. -/
theorem ModeEnds.latches {part : PartPages} {s t : State} (h : ModeEnds part s t) :
    t.identity = s.identity ∧ t.busBound = s.busBound ∧ t.csId = s.csId ∧
      (t.pageCount = s.pageCount ∨ s.pageCount = 0 ∧ t.status = .ready ∧ t.flight = none) := by
  cases h with
  | failed w => simp [w.identity, w.pageCount, w.busBound, w.csId]
  | finished w =>
    by_cases h0 : s.pageCount = 0#16 <;> simp [initFinish, w.identity, w.pageCount, w.busBound, w.csId, h0]
  | waits w _ => exact ⟨w.identity, w.busBound, w.csId, .inl w.pageCount⟩

/-- INIT after its step 1 writes `identity` and `pageCount` alone, only while `pageCount` is 0. -/
theorem InitEnds.latches {s t : State} (h : InitEnds s t) :
    (t.identity = s.identity ∧ t.pageCount = s.pageCount ∨ s.pageCount = 0) ∧
      t.busBound = s.busBound ∧ t.csId = s.csId ∧ (t.pageCount = s.pageCount ∨ t.status = .ready ∧ t.flight = none) := by
  cases h with
  | timedOut w => simp [w.identity, w.pageCount, w.busBound, w.csId]
  | waits w _ => exact ⟨.inl ⟨w.identity, w.pageCount⟩, w.busBound, w.csId, .inl w.pageCount⟩
  | unknown _ w => by_cases h0 : s.pageCount = 0#16 <;> simp [w.identity, w.pageCount, w.busBound, w.csId, h0]
  | known _ _ w _ _ mode =>
    obtain ⟨hid, hbound, hcs, hpages⟩ := mode.latches
    simp only [latchIdentity_identity, latchIdentity_pageCount, latchIdentity_busBound, latchIdentity_csId, w.identity,
      w.pageCount, w.busBound, w.csId] at hid hbound hcs hpages
    by_cases h0 : s.pageCount = 0
    · exact ⟨.inr h0, hbound, hcs, hpages.imp_right And.right⟩
    · have hsame := hpages.resolve_right (fun h => h0 h.1)
      exact ⟨.inl ⟨by rw [hid, if_neg h0], hsame⟩, hbound, hcs, .inl hsame⟩

/-- No instruction but INIT writes a latch. -/
theorem Executes.latches {i : Instr} {s t : State} (h : Executes s i t) :
    latches t = latches s ∨ i = .init ∧ s.csIdIn ≠ 0 ∧ InitEnds (bindBus s) t := by
  cases h with
  | rejected e _ _ => exact .inl (latches_raise e s)
  | wire _ _ _ w => exact .inl w.latches
  | data _ _ _ _ ends => exact .inl ends.latches
  | read _ _ _ _ _ ends => exact .inl ends.latches
  | init selected ends => exact .inr ⟨rfl, selected, ends⟩
  | unbound _ => exact .inl rfl
  | asked _ _ w => exact .inl w.latches

/-- What a step with reset released does to the latches: nothing, or what INIT does. -/
theorem Steps.latches {s t : State} (h : Steps s t) (hreset : s.resetIn = false) :
    latches t = latches s ∨ AcceptsRequest s .init ∧ InitEnds (bindBus (accept s)) t ∨
      InitGoesOn s ∧ (InitEnds (unpark s) t ∨ ∃ part, ModeEnds part (unpark s) t) := by
  cases h with
  | resets asserted => simp [asserted] at hreset
  | rests => exact .inl rfl
  | rejects _ _ _ _ => exact .inl (latches_raise _ _)
  | accepts hreset hidle hport hdecode runs =>
    rcases runs.latches with h | ⟨rfl, -, ends⟩
    · exact .inl h
    · exact .inr (.inl ⟨acceptsRequest_of_decode hreset hidle hport hdecode rfl, ends⟩)
  | goesOn hreset hbusy hflight =>
    rename_i f
    cases f with
    | initReady => exact .inr (.inr ⟨⟨hreset, hbusy, .inl hflight⟩, .inl (initPoll_ends _)⟩)
    | initConfig part =>
      exact .inr (.inr ⟨⟨hreset, hbusy, .inr ⟨part, hflight⟩⟩, .inr ⟨part, initDelay_ends part hbusy⟩⟩)
    | poll budget => exact .inl (completePoll_finishes budget (unpark s)).latches
    | delay ticks => exact .inl (completeDelay_finishes ticks (s := unpark s) hbusy).latches

/-- Settles O54: of the operations only INIT writes a latch, and it binds the bus only in its first step. -/
theorem latchesWrittenByInitAlone : Obligations.LatchesWrittenByInitAlone := by
  intro s t hreset h
  rcases (steps_of_step h).latches hreset with h | ⟨haccepts, ends⟩ | ⟨hgoes, ends⟩
  · simp only [latches, Prod.mk.injEq] at h
    obtain ⟨hid, hpages, hbound, hcs⟩ := h
    exact ⟨.inl ⟨hid, hpages⟩, .inl ⟨hbound, hcs⟩⟩
  · obtain ⟨hid, hbound, hcs, -⟩ := ends.latches
    simp only [bindBus_identity, bindBus_pageCount, bindBus_busBound, bindBus_csId, accept_identity, accept_pageCount,
      accept_busBound, accept_csId, accept_csIdIn] at hid hbound hcs
    refine ⟨hid.imp_right fun h0 => ⟨h0, .inl haccepts⟩, ?_⟩
    cases hb : s.busBound with
    | true => exact .inl ⟨hbound, by simpa [hb] using hcs⟩
    | false => exact .inr ⟨rfl, haccepts, hbound, by simpa [hb] using hcs⟩
  · have hlatches : (t.identity = s.identity ∧ t.pageCount = s.pageCount ∨ s.pageCount = 0) ∧
        t.busBound = s.busBound ∧ t.csId = s.csId := by
      rcases ends with ends | ⟨part, ends⟩
      · obtain ⟨hid, hbound, hcs, -⟩ := ends.latches
        exact ⟨hid, hbound, hcs⟩
      · obtain ⟨hid, hbound, hcs, hpages⟩ := ends.latches
        exact ⟨hpages.imp (⟨hid, ·⟩) And.left, hbound, hcs⟩
    exact ⟨hlatches.1.imp_right fun h0 => ⟨h0, .inr hgoes⟩, .inl hlatches.2⟩

end Sys2Proof.Machine
end

section
/-! Requests that fail a guard (43_operations.md R186, R188 to R190, R192, R194, R198, R202, R208): ErrorArgument, or for READ
without a grant ErrorMemoryAllocation, and nothing else. -/

namespace Sys2Proof.Machine

section Guards
variable {s : State} {policy : Policy} {crc ebw buf : Bool} {length : BitVec 16} {address : BitVec 32}

theorem raise_startOperation_eq_ended (e : ErrorKind) (v : Status) (h : s.cs = true) :
    raise e (startOperation v s) = ended e.status s := by
  rw [raise_startOperation, raise_eq_ended e h]

theorem exec_write_rejected (h : ¬guardWrite policy crc buf length address s = true) (hcs : s.cs = true) :
    exec (.write policy crc ebw buf length address) s = .next (ended .errorArgument s) :=
  congrArg Host.Outcome.next ((if_neg h).trans (raise_startOperation_eq_ended _ _ hcs))

theorem exec_read_rejected (h : ¬guardRead crc buf length address s = true) (hcs : s.cs = true) :
    exec (.read crc buf length address) s = .next (ended .errorArgument s) :=
  congrArg Host.Outcome.next ((if_neg h).trans (raise_startOperation_eq_ended _ _ hcs))

theorem exec_read_ungranted (h : guardRead crc buf length address s = true) (hgrant : s.frameGrant = false)
    (hcs : s.cs = true) : exec (.read crc buf length address) s = .next (ended .errorMemoryAllocation s) :=
  congrArg Host.Outcome.next <|
    calc opRead crc buf length address s
        = if (startOperation .busyRead s).frameGrant then _ else raise .memoryAllocation (startOperation .busyRead s) :=
          if_pos h
      _ = raise .memoryAllocation (startOperation .busyRead s) := if_neg (by simp [hgrant])
      _ = ended .errorMemoryAllocation s := raise_startOperation_eq_ended _ _ hcs

theorem eraseUnit_rejected {u : Nat} (op : LogicalOp) (t : Tick) (h : ¬guardErase u policy address s = true)
    (hcs : s.cs = true) : eraseUnit u op t policy address s = ended .errorArgument s :=
  (if_neg h).trans (raise_startOperation_eq_ended _ _ hcs)

theorem exec_eraseChip_rejected (h : ¬guardChip policy address s = true) (hcs : s.cs = true) :
    exec (.eraseChip policy address) s = .next (ended .errorArgument s) :=
  congrArg Host.Outcome.next ((if_neg h).trans (raise_startOperation_eq_ended _ _ hcs))

theorem exec_init_rejected (h : ¬guardStraps s = true) (hcs : s.cs = true) :
    exec .init s = .next (ended .errorArgument s) :=
  congrArg Host.Outcome.next ((if_neg h).trans (raise_argument_setSeq _ hcs))

/-- R54, R55, R188, R198, R208 for a unit of `u` bytes. -/
theorem not_guardErase {u : Nat} (h : s.pageCount = 0 ∨ policy = .reserved ∨ address.toNat % u ≠ 0 ∨
    s.pageCount.toNat * 512 < address.toNat + u) : ¬guardErase u policy address s = true := by
  intro hguard
  obtain ⟨hinit, ⟨haligned, hbound⟩, hpolicy⟩ := (guardErase_iff _ _ _ _).mp hguard
  rcases h with h | h | h | h
  · exact hinit h
  · exact hpolicy h
  · exact h haligned
  · omega

end Guards

/-- Settles O23. -/
theorem initRejectsStraps : Obligations.InitRejectsStraps := by
  intro s hcs hstraps
  refine exec_init_rejected (fun h => ?_) hcs
  obtain ⟨hok, hid⟩ := (guardStraps_iff s).mp h
  rcases hstraps with h | h
  · simp [h] at hok
  · exact hid h

/-- Settles O28: each disjunct contradicts one of the guards. -/
theorem writeRejected : Obligations.WriteRejected := by
  intro s policy crc ebw buf length address hcs hfails
  refine exec_write_rejected (fun h => ?_) hcs
  obtain ⟨hinit, ⟨hlength, hbuf, hfits, haligned, hbound⟩, hpolicy⟩ := (guardWrite_iff _ _ _ _ _ _).mp h
  rw [frameLength_eq] at hfits
  rcases hfails with h | h | h | h | h | h | h
  · exact hinit h
  · exact hlength h
  · simp [h] at hbuf
  · omega
  · exact h haligned
  · omega
  · exact hpolicy h

/-- Settles O32: the argument guards are asked first (R194). -/
theorem readRejected : Obligations.ReadRejected := by
  intro s crc buf length address hcs
  refine ⟨fun hfails => exec_read_rejected (fun h => ?_) hcs, fun hlength hbuf hfits haligned hbound hgrant => ?_⟩
  · obtain ⟨hinit, hlength, hbuf, hfits, haligned, hbound⟩ := (guardRead_iff _ _ _ _ _).mp h
    rw [frameLength_eq] at hfits
    rcases hfails with h | h | h | h | h | h
    · exact hinit h
    · exact hlength h
    · simp [h] at hbuf
    · omega
    · exact h haligned
    · omega
  · have hinit : s.pageCount ≠ 0 := by
      intro h0
      simp [h0] at hbound
    exact exec_read_ungranted ((guardRead_iff _ _ _ _ _).mpr ⟨hinit, hlength, hbuf, hfits, haligned, hbound⟩) hgrant hcs

/-- Settles O36. -/
theorem eraseRejected : Obligations.EraseRejected := by
  intro s policy address hcs
  refine ⟨fun h => ?page, fun h => ?block, fun h => ?sector, fun h => ?chip⟩
  case page => exact congrArg Host.Outcome.next (eraseUnit_rejected _ _ (not_guardErase h) hcs)
  case block => exact congrArg Host.Outcome.next (eraseUnit_rejected _ _ (not_guardErase h) hcs)
  case sector => exact congrArg Host.Outcome.next (eraseUnit_rejected _ _ (not_guardErase h) hcs)
  case chip =>
    refine exec_eraseChip_rejected (fun hguard => ?_) hcs
    obtain ⟨hinit, haddress, hpolicy⟩ := (guardChip_iff _ _ _).mp hguard
    rcases h with h | h | h
    · exact hinit h
    · exact hpolicy h
    · exact h haddress

/-- Settles O16. -/
theorem pageReadPastFrameBufferStops : Obligations.PageReadPastFrameBufferStops := fun _ _ _ h =>
  if_neg (Nat.not_le.mpr h)

/-- A wire command presented by itself that does not run is turned away (log 4). -/
theorem exec_wire_rejected {i : Instr} {s : State} (hi : isWire i = true) (hcount : ∀ a n, i = .pgrd a n → n ≤ pageSize)
    (h : ¬WireRuns s i) (hcs : s.cs = true) : exec i s = .next (ended .errorArgument s) := by
  have hwire : AddressFits s.pageCount.toNat i → ¬guardWire s = true := fun hfits hguard =>
    h ⟨((guardWire_iff s).mp hguard).1, ((guardWire_iff s).mp hguard).2, hfits⟩
  have hunit : ∀ u (a : BitVec 24), (a.toNat % u = 0 ∧ a.toNat + u ≤ s.pageCount.toNat * 512 →
      AddressFits s.pageCount.toNat i) → ¬guardWireUnit u a s = true := fun u a hfits hguard =>
    have hparts := (guardWireUnit_iff u a s).mp hguard
    h ⟨hparts.1.1, hparts.1.2, hfits hparts.2⟩
  cases i with
  | bufwr | chiper | srrd | idrd | pscfg => exact standAlone_rejected _ (hwire trivial) hcs
  | progE | progNe | pger | blker | secer => exact standAlone_rejected _ (hunit _ _ id) hcs
  | pgrd a n =>
    rw [exec, execPgrd, if_pos (hcount a n rfl)]
    exact standAlone_rejected _ (hunit _ _ id) hcs
  | init | write | read | erasePage | eraseBlock | eraseSector | eraseChip | eraseUnrecognised | isBusy | reserved5
  | reserved67 => cases hi

/-- R188, R264: what an uninitialised block answers to anything but INIT, ISBUSY and an unrecognised selector. -/
theorem exec_uninitialised {i : Instr} {s : State} (h0 : s.pageCount = 0) (hcs : s.cs = true)
    (hcount : ∀ a n, i = .pgrd a n → n ≤ pageSize) (hinit : i ≠ .init) (hbusy : i ≠ .isBusy)
    (hgran : ∀ g, i ≠ .eraseUnrecognised g) : exec i s = .next (ended .errorArgument s) := by
  cases i with
  | bufwr | progE | progNe | pgrd | pger | blker | secer | chiper | srrd | idrd | pscfg =>
    exact exec_wire_rejected rfl hcount (fun h => h.1 h0) hcs
  | init => exact absurd rfl hinit
  | isBusy => exact absurd rfl hbusy
  | eraseUnrecognised g => exact absurd rfl (hgran g)
  | write => exact writeRejected _ _ _ _ _ _ _ hcs (.inl h0)
  | read => exact (readRejected _ _ _ _ _ hcs).1 (.inl h0)
  | erasePage => exact (eraseRejected _ _ _ hcs).1 (.inl h0)
  | eraseBlock => exact (eraseRejected _ _ _ hcs).2.1 (.inl h0)
  | eraseSector => exact (eraseRejected _ _ _ hcs).2.2.1 (.inl h0)
  | eraseChip => exact (eraseRejected _ _ _ hcs).2.2.2 (.inl h0)
  | reserved5 => exact exec_reserved5 hcs
  | reserved67 => exact exec_reserved67 _ hcs

/-- Settles O56: once a request has touched the bus it ends in Ready or in an error of another kind (R231). -/
theorem guardErrorsTouchNoBus : Obligations.GuardErrorsTouchNoBus := by
  intro i s t hi hbusy hcs hexec hflight hstatus
  cases executes_of_exec hexec with
  | rejected e _ _ => rw [raise_trace, if_pos hcs]
  | wire kind _ _ _ => simp [kind] at hi
  | data _ _ _ _ ends =>
    cases ends with
    | timedOut _ => simp [ErrorKind.status] at hstatus
    | ready _ => simp at hstatus
    | polls _ _ _ => simp at hflight
    | delays _ _ _ => simp at hflight
  | read _ _ _ _ _ ends => cases ends <;> simp [ErrorKind.status] at hstatus
  | init _ ends =>
    cases ends with
    | timedOut _ => simp [ErrorKind.status] at hstatus
    | waits _ _ => simp at hflight
    | unknown _ _ => simp [ErrorKind.status] at hstatus
    | known _ _ _ _ _ mode =>
      cases mode with
      | failed _ => simp [ErrorKind.status] at hstatus
      | finished _ => simp [initFinish] at hstatus
      | waits _ _ => simp at hflight
  | unbound _ => exact absurd rfl hbusy
  | asked _ _ _ => exact absurd rfl hbusy

end Sys2Proof.Machine
end

section
/-! The invariants of the block (10_state.md R36, R38, R260, R264). -/

namespace Sys2Proof.Machine

/-- The invariants that also hold inside an operation, between two of its frames. -/
structure Sound (s : State) : Prop where
  released : s.cs = true
  framed : WellFramed s.trace
  part : s.pageCount ≠ 0 → s.identity.b0 = manufacturerId ∧
    (partOf s.params s.identity.b1).map PartPages.pages = some s.pageCount
  resetStatus : s.status = .reset → s.pageCount = 0
  bound : (s.pageCount ≠ 0 → s.busBound = true) ∧ (s.busBound = true → s.csId ≠ 0)
  readyStatus : s.status = .ready → s.pageCount ≠ 0
  fb : FbFits s.fb
  hostBuf : Memory.wf s.hostBuf = true

theorem StateInv.sound {s : State} (h : StateInv s) : Sound s :=
  ⟨h.released, h.framed, h.part, h.resetStatus, h.bound, h.readyStatus, ⟨h.memory.1, h.memory.2.2⟩, h.memory.2.1⟩

namespace Sound
variable {s t : State}

theorem stateInv (h : Sound s) (phase : s.flight = none ↔ s.seq = .idle)
    (notBusy : s.flight = none → s.status.isBusy = false) (fits : FlightFits s) : StateInv s :=
  ⟨h.released, h.framed, phase, notBusy, h.part, h.resetStatus, h.bound, h.readyStatus, fits,
    h.fb.1, h.hostBuf, h.fb.2⟩

theorem works (h : Sound s) (w : Works s t) : Sound t where
  released := w.released h.released
  framed := w.wellFramed h.framed
  part := by
    rw [w.pageCount, w.identity, w.params]
    exact h.part
  resetStatus := by
    rw [w.status, w.pageCount]
    exact h.resetStatus
  bound := by
    rw [w.pageCount, w.busBound, w.csId]
    exact h.bound
  readyStatus := by
    rw [w.status, w.pageCount]
    exact h.readyStatus
  fb := w.fbFits h.fb
  hostBuf := w.hostBuf ▸ h.hostBuf

theorem startOperation (h : Sound s) {busy : Status} (hbusy : busy.isBusy = true) :
    Sound (Machine.startOperation busy s) where
  released := h.released
  framed := h.framed
  part := h.part
  resetStatus := by rintro rfl; cases hbusy
  bound := h.bound
  readyStatus := by rintro rfl; cases hbusy
  fb := h.fb
  hostBuf := h.hostBuf

theorem bindBus (h : Sound s) (hid : s.csIdIn ≠ 0) : Sound (Machine.bindBus s) := by
  rw [bindBus_eq]
  refine ⟨h.released, h.framed, h.part, h.resetStatus, ⟨fun _ => rfl, fun _ => ?_⟩, h.readyStatus, h.fb, h.hostBuf⟩
  cases hb : s.busBound with
  | true => simpa using h.bound.2 hb
  | false => simpa using hid

/-- R21: an initialised block keeps the identity its page count came from. -/
theorem latchIdentity (h : Sound s) (id : Identity) : Sound (Machine.latchIdentity id s) := by
  rw [latchIdentity_eq]
  exact ⟨h.released, h.framed, fun (hinit : s.pageCount ≠ 0) => by
    simpa only [if_neg hinit] using h.part hinit, h.resetStatus, h.bound, h.readyStatus,
    h.fb, h.hostBuf⟩

/-- An error status is no busy value, not Ready and not Reset. -/
theorem raise (h : Sound s) (e : ErrorKind) : StateInv (Machine.raise e s) where
  released := raise_cs e s
  framed := by
    rw [raise_trace, if_pos h.released]
    exact h.framed
  phase := by simp
  notBusy := by cases e <;> simp [ErrorKind.status, Status.isBusy]
  part := by simpa using h.part
  resetStatus := by cases e <;> simp [ErrorKind.status]
  bound := by simpa using h.bound
  readyStatus := by cases e <;> simp [ErrorKind.status]
  flight := trivial
  memory := by
    rw [raise_fb, raise_hostBuf]
    exact ⟨h.fb.1, h.hostBuf, h.fb.2⟩

theorem returnReady (h : Sound s) (hinit : s.pageCount ≠ 0) : StateInv (Machine.returnReady s) where
  released := h.released
  framed := h.framed
  phase := by simp
  notBusy := by simp [Status.isBusy]
  part := h.part
  resetStatus := nofun
  bound := h.bound
  readyStatus := fun _ => hinit
  flight := trivial
  memory := ⟨h.fb.1, h.hostBuf, h.fb.2⟩

/-- Between two steps an operation stands in a wait that fits the latches. -/
theorem park (h : Sound s) {f : Flight} (hseq : s.seq ≠ .idle) (hfits : FlightFits (park f s)) :
    StateInv (Machine.park f s) :=
  stateInv ⟨h.released, h.framed, h.part, h.resetStatus, h.bound, h.readyStatus, h.fb, h.hostBuf⟩
    (by simpa using hseq) nofun hfits

end Sound

theorem pages_ne_zero (part : PartPages) : part.pages ≠ 0 := by
  intro h
  have := part.legal.1
  simp [h] at this

/-- The latches fit the part INIT is about to write (R186 steps 4 to 6). -/
def PartFits (part : PartPages) (s : State) : Prop :=
  s.busBound = true ∧
    (s.pageCount = 0 → s.identity.b0 = manufacturerId ∧ partOf s.params s.identity.b1 = some part)

theorem PartFits.works {part : PartPages} {s t : State} (h : PartFits part s) (w : Works s t) : PartFits part t := by
  rw [PartFits, w.busBound, w.pageCount, w.identity, w.params]
  exact h

/-- R186 step 6: the page count INIT writes is the one of the part that `identity` names. -/
theorem stateInv_initFinish {part : PartPages} {s : State} (h : Sound s) (hfits : PartFits part s) :
    StateInv (initFinish part s) := by
  obtain ⟨hbound, hpart⟩ := hfits
  rw [initFinish, latchPages_eq]
  have hpages : (if s.pageCount = 0 then part.pages else s.pageCount) ≠ 0 := by
    split
    · exact pages_ne_zero part
    · assumption
  refine ⟨h.released, h.framed, by simp, by simp [Status.isBusy], fun _ => ?named, nofun, ⟨fun _ => hbound, h.bound.2⟩,
    fun _ => hpages, trivial, h.fb.1, h.hostBuf, h.fb.2⟩
  by_cases h0 : s.pageCount = 0
  · obtain ⟨hmaker, hlisted⟩ := hpart h0
    exact ⟨hmaker, by simp [hlisted, h0]⟩
  · simpa only [returnReady_pageCount, returnReady_identity, returnReady_params, if_neg h0] using h.part h0

theorem Finishes.stateInv {s t : State} (h : Finishes s t) (hs : Sound s) (hinit : s.pageCount ≠ 0)
    (hbusy : s.status.isBusy = true) : StateInv t := by
  cases h with
  | timedOut w => exact (hs.works w).raise _
  | ready w => exact (hs.works w).returnReady (w.pageCount ▸ hinit)
  | polls _ w hseq => exact (hs.works w).park hseq ⟨w.pageCount ▸ hinit, w.status ▸ hbusy⟩
  | delays _ w hseq => exact (hs.works w).park hseq ⟨w.pageCount ▸ hinit, w.status ▸ hbusy⟩

theorem ReadEnds.stateInv {n : Nat} {s t : State} (h : ReadEnds n s t) (hs : Sound s) (hinit : s.pageCount ≠ 0) :
    StateInv t := by
  cases h with
  | timedOut w => exact (hs.works w).raise _
  | mismatch w => exact (hs.works w).raise _
  | copied w _ =>
    have hu := hs.works w
    exact Sound.returnReady ⟨hu.released, hu.framed, hu.part, hu.resetStatus, hu.bound, hu.readyStatus, hu.fb,
      Memory.wf_writeBytes _ _ _ hu.hostBuf⟩ (w.pageCount ▸ hinit)

theorem ModeEnds.stateInv {part : PartPages} {s t : State} (h : ModeEnds part s t) (hs : Sound s)
    (hfits : PartFits part s) : StateInv t := by
  cases h with
  | failed w => exact (hs.works w).raise _
  | finished w => exact stateInv_initFinish (hs.works w) (hfits.works w)
  | waits w hseq =>
    have hfits' : PartFits part _ := hfits.works w
    exact (hs.works w).park hseq hfits'

theorem InitEnds.stateInv {s t : State} (h : InitEnds s t) (hs : Sound s) (hbound : s.busBound = true) :
    StateInv t := by
  cases h with
  | timedOut w => exact (hs.works w).raise _
  | waits w hseq =>
    have hbound' : _ = true := w.busBound.trans hbound
    exact (hs.works w).park hseq hbound'
  | unknown bytes w => exact ((hs.works w).latchIdentity _).raise _
  | known bytes part w maker listed mode =>
    refine mode.stateInv ((hs.works w).latchIdentity _) ⟨by rw [latchIdentity_busBound, w.busBound, hbound], ?_⟩
    intro h0
    rw [latchIdentity_pageCount] at h0
    rw [latchIdentity_identity, latchIdentity_params, if_pos h0]
    exact ⟨maker, listed⟩

theorem Executes.stateInv {i : Instr} {s t : State} (h : Executes s i t) (hs : StateInv s) (hidle : s.seq = .idle) :
    StateInv t := by
  have hflight : s.flight = none := hs.phase.mpr hidle
  cases h with
  | rejected e _ _ => exact hs.sound.raise e
  | wire _ _ _ w =>
    have w' := w.trans (works_setSeq .idle _)
    exact (hs.sound.works w').stateInv (by simp [w.flight, hflight]) (fun _ => w'.status ▸ hs.notBusy hflight)
      (by simp [FlightFits, w.flight, hflight])
  | data _ _ isBusy init ends => exact ends.stateInv (hs.sound.startOperation isBusy) init isBusy
  | read _ _ _ _ init ends => exact ends.stateInv (hs.sound.startOperation rfl) init
  | init selected ends => exact ends.stateInv (hs.sound.bindBus selected) (bindBus_busBound s)
  | unbound _ =>
    exact ⟨hs.released, hs.framed, hs.phase, hs.notBusy, hs.part, hs.resetStatus, hs.bound, hs.readyStatus, hs.flight,
      hs.memory⟩
  | asked _ _ w =>
    have w' := w.trans (works_setSeq .idle _)
    have hu := (hs.sound.works w').stateInv (by simp [w.flight, hflight]) (fun _ => w'.status ▸ hs.notBusy hflight)
      (by simp [FlightFits, w.flight, hflight])
    exact ⟨hu.released, hu.framed, hu.phase, hu.notBusy, hu.part, hu.resetStatus, hu.bound, hu.readyStatus, hu.flight,
      hu.memory⟩

theorem stateInv_accept {s : State} (h : StateInv s) : StateInv (accept s) :=
  ⟨h.released, h.framed, h.phase, h.notBusy, h.part, h.resetStatus, h.bound, h.readyStatus, h.flight, h.memory⟩

theorem sound_unpark {s : State} (h : StateInv s) : Sound (unpark s) :=
  have hs := h.sound
  ⟨hs.released, hs.framed, hs.part, hs.resetStatus, hs.bound, hs.readyStatus, hs.fb, hs.hostBuf⟩

/-- The wait an operation stands in tells which latches it may rely on. -/
theorem stateInv_resume {s : State} {f : Flight} (h : StateInv s) (hseq : s.seq ≠ .idle) (hf : s.flight = some f) :
    StateInv (resume f (unpark s)) := by
  have hs := sound_unpark h
  have hfits := h.flight
  simp only [FlightFits, hf] at hfits
  cases f with
  | initReady => exact (initPoll_ends _).stateInv hs hfits
  | initConfig part => exact (initDelay_ends part (s := unpark s) hseq).stateInv hs hfits
  | poll budget => exact (completePoll_finishes budget _).stateInv hs hfits.1 hfits.2
  | delay ticks => exact (completeDelay_finishes ticks (s := unpark s) hseq).stateInv hs hfits.1 hfits.2

theorem stateInv_resetBlock {s : State} (h : StateInv s) : StateInv (resetBlock s) := by
  rw [resetBlock, if_pos h.released]
  exact ⟨rfl, h.framed, by simp [State.resetRegisters], fun _ => rfl, fun h => absurd rfl h, fun _ => rfl,
    ⟨fun h => absurd rfl h, nofun⟩, nofun, trivial, rfl, h.memory.2.1, nofun⟩

/-- Settles O48: each thing a step can do keeps the invariants. -/
theorem stepKeepsInvariants : Obligations.StepKeepsInvariants := by
  intro s t hs h
  cases steps_of_step h with
  | resets _ => exact stateInv_resetBlock hs
  | rests => exact hs
  | rejects _ _ _ _ => exact (stateInv_accept hs).sound.raise _
  | accepts _ hidle _ _ runs => exact runs.stateInv (stateInv_accept hs) hidle
  | goesOn _ hbusy hflight => exact stateInv_resume hs hbusy hflight

/-- Settles O49. -/
theorem resetHasInvariants : Obligations.ResetHasInvariants :=
  ⟨rfl, rfl, by simp [State.reset], fun _ => rfl, fun h => absurd rfl h, fun _ => rfl, ⟨fun h => absurd rfl h, nofun⟩,
    nofun, trivial, rfl, rfl, nofun⟩

/-- Settles O50. -/
theorem resetRegisterValues : Obligations.ResetRegisterValues :=
  ⟨rfl, rfl, rfl, rfl, rfl, rfl, rfl, rfl, rfl, rfl, rfl, rfl, rfl, rfl, rfl⟩

/-- Settles O51: the level of chip select decides whether a scope has to be closed. -/
theorem resetInputResets : Obligations.ResetInputResets := by
  intro s hreset
  rw [step, if_pos hreset, resetBlock]
  cases hcs : s.cs <;> rfl

/-- Settles O60. -/
theorem statusCodes : Obligations.StatusCodes := by
  refine ⟨fun a b => ?distinct, fun e => ?error, fun v => ?kind⟩
  case distinct => cases a <;> cases b <;> decide
  case error => cases e <;> rfl
  case kind =>
    intro h
    cases v with
    | reset | ready | busyWrite | busyRead | busyErase => cases h
    | errorInitialization => exact ⟨.initialization, rfl⟩
    | errorArgument => exact ⟨.argument, rfl⟩
    | errorTimeout => exact ⟨.timeout, rfl⟩
    | errorMemoryAllocation => exact ⟨.memoryAllocation, rfl⟩
    | errorChecksum => exact ⟨.checksum, rfl⟩
    | errorInstruction => exact ⟨.instruction, rfl⟩

/-- Settles O55: an INIT that writes `pageCount` is at its end, and then R36 (c) says what the count is. -/
theorem pageCountSetByReadyInit : Obligations.PageCountSetByReadyInit := by
  intro s t hs h h0 hne
  have hchanged : t.pageCount ≠ s.pageCount := h0 ▸ hne
  have hend : (t.status = .ready ∧ t.flight = none) ∧ (AcceptsRequest s .init ∨ InitGoesOn s) := by
    have hreset : s.resetIn = false := by
      cases hr : s.resetIn with
      | false => rfl
      | true =>
        rw [resetInputResets s hr] at h
        cases h
        exact absurd rfl hne
    rcases (steps_of_step h).latches hreset with hsame | ⟨haccepts, ends⟩ | ⟨hgoes, ends | ⟨part, ends⟩⟩
    · exact absurd (congrArg (·.2.1) hsame :) hchanged
    · exact ⟨ends.latches.2.2.2.resolve_left (by simpa using hchanged), .inl haccepts⟩
    · exact ⟨ends.latches.2.2.2.resolve_left hchanged, .inr hgoes⟩
    · exact ⟨(ends.latches.2.2.2.resolve_left hchanged).2, .inr hgoes⟩
  obtain ⟨hmaker, hpages⟩ := (stepKeepsInvariants s t hs h).part hne
  exact ⟨hend.1.1, hend.1.2, hmaker, hpages, hend.2⟩

/-- R264, over the cases of a step: all that may touch the bus of an uninitialised block is INIT and a bound ISBUSY. -/
theorem trace_of_uninitialised {s t : State} (hs : StateInv s) (h : Steps s t) (h0 : s.pageCount = 0) :
    t.trace = s.trace ∨ AcceptsRequest s .init ∨ InitGoesOn s ∨ AcceptsRequest s .isBusy ∧ s.busBound = true := by
  have hrejected : ∀ e, (raise e (accept s)).trace = s.trace := fun e => by
    rw [raise_trace, if_pos (by exact hs.released)]
    rfl
  cases h with
  | resets _ =>
    rw [resetBlock, if_pos hs.released]
    exact .inl rfl
  | rests => exact .inl rfl
  | rejects _ _ _ _ => exact .inl (hrejected _)
  | accepts hreset hidle hport hdecode runs =>
    cases runs with
    | rejected e _ _ => exact .inl (hrejected e)
    | wire _ init _ _ => exact absurd h0 init
    | data _ _ _ init _ => exact absurd h0 init
    | read _ _ _ _ init _ => exact absurd h0 init
    | init _ _ => exact .inr (.inl (acceptsRequest_of_decode hreset hidle hport hdecode rfl))
    | unbound _ => exact .inl rfl
    | asked _ bound _ =>
      exact .inr (.inr (.inr ⟨acceptsRequest_of_decode hreset hidle hport hdecode rfl, bound⟩))
  | goesOn hreset hbusy hflight =>
    rename_i f
    have hfits := hs.flight
    simp only [FlightFits, hflight] at hfits
    cases f with
    | initReady => exact .inr (.inr (.inl ⟨hreset, hbusy, .inl hflight⟩))
    | initConfig part => exact .inr (.inr (.inl ⟨hreset, hbusy, .inr ⟨part, hflight⟩⟩))
    | poll budget => exact absurd h0 hfits.1
    | delay ticks => exact absurd h0 hfits.1

/-- Settles O57. -/
theorem uninitialisedTouchesNoBus : Obligations.UninitialisedTouchesNoBus := by
  refine ⟨fun s t hs h => trace_of_uninitialised hs (steps_of_step h), fun s h0 hcs hreset hidle => ⟨fun w hport => ?_, ?_⟩⟩
  · have hstep : step s = exec (decodeRequest w) (accept s) := step_of_decode hreset hidle hport rfl
    rw [hstep]
    refine ⟨fun hinit hbusy hgran => ?other, fun g hg => ?unrecognised, fun hb hfree => ?isBusy⟩
    case other =>
      exact exec_uninitialised (s := accept s) h0 hcs (count_le_of_wellFormed (wellFormed_decodeRequest w)) hinit hbusy hgran
    case unrecognised =>
      rw [hg]
      exact exec_eraseUnrecognised g (s := accept s) hcs
    case isBusy =>
      rw [hb]
      exact congrArg Host.Outcome.next (if_neg (by simp [hfree]))
  · intro crc bytes hport
    cases hdecode : decodeFrame crc bytes with
    | error e => exact everyStepAnswersNext.2 s crc bytes e hreset hidle hcs hport hdecode
    | ok i =>
      have hwire := (wireAnswer_decodeFrame crc bytes i hdecode).1
      rw [step_of_decode hreset hidle hport hdecode]
      exact exec_wire_rejected (s := accept s) hwire
        (count_le_of_wellFormed (wireAnswer_decodeFrame crc bytes i hdecode).2) (fun h => h.1 h0) hcs

end Sys2Proof.Machine
end

section
/-! Frames whose calls fail, and the wire commands presented by themselves (40_encoder.md R114 to R124; 42_framing_poll.md
R156, R157; log 4). -/

namespace Sys2Proof.Machine

/-! ### A frame with a failing call -/

theorem transfer_ok (c : Call) {s : State} {b : List Byte} {rest : List BusAnswer} (h : s.bus = ⟨true, b⟩ :: rest) :
    ∃ bytes e, transfer c s = (some bytes, logEvent e (dropAnswer s)) := by
  cases c with
  | tx bytes => exact ⟨_, _, transfer_tx_ok h⟩
  | rx n => exact ⟨_, _, transfer_rx_ok h⟩

theorem transfer_fail (c : Call) {s : State} {b : List Byte} {rest : List BusAnswer} (h : s.bus = ⟨false, b⟩ :: rest) :
    transfer c s = (none, logEvent c.failEvent (dropAnswer s)) := by
  cases c with
  | tx bytes => exact transfer_tx_fail h
  | rx n => exact transfer_rx_fail h

/-- Calls of which the one after `pre` is the first to fail (R157). -/
theorem runCalls_fail (pre : List Call) (c : Call) (post : List Call) {s : State} {good rest : List BusAnswer}
    {b : List Byte} (hb : s.bus = good ++ ⟨false, b⟩ :: rest) (hl : good.length = pre.length)
    (ha : ∀ x ∈ good, x.ok = true) : ∃ evs : List Event, evs.length = pre.length ∧
      runCalls (pre ++ c :: post) s = (none,
        { s with
          trace := s.trace ++ evs ++ [c.failEvent], bus := rest, draws := s.draws + good.length + 1 }) := by
  induction pre generalizing s good with
  | nil =>
    obtain rfl := List.length_eq_zero_iff.mp hl
    rw [List.nil_append] at hb
    refine ⟨[], rfl, ?_⟩
    simp [runCalls, transfer_fail c hb, logEvent, dropAnswer, hb]
  | cons d pre ih =>
    match good, hl with
    | ⟨o, x⟩ :: good, hl =>
      obtain rfl : o = true := ha ⟨o, x⟩ List.mem_cons_self
      obtain ⟨bytes, e, he⟩ := transfer_ok d (rest := good ++ ⟨false, b⟩ :: rest) (by exact hb)
      obtain ⟨evs, hlen, hrun⟩ := ih (s := logEvent e (dropAnswer s)) (good := good) (by simp [hb]) (Nat.succ.inj hl)
        (fun y hy => ha y (List.mem_cons_of_mem _ hy))
      refine ⟨e :: evs, by simp [hlen], ?_⟩
      rw [List.cons_append, runCalls, he]
      simp only [hrun]
      simp [logEvent, dropAnswer]
      omega

/-- Settles O21. -/
theorem frameStopsAtFirstFailure : Obligations.FrameStopsAtFirstFailure := by
  intro pre post c s good rest b hb hl ha
  obtain ⟨evs, hlen, hrun⟩ := runCalls_fail pre c post (s := csLow (setSeq .frame s)) hb hl ha
  rw [runFrame, hrun]
  exact ⟨rfl, rfl, rfl, evs, hlen, by simp⟩

/-- A frame of some transmits and one last call, of which call number `good.length` is the first to fail. -/
theorem runFrame_fail_of_getElem? {sent : List (List Byte)} {last c : Call} {s : State} {good rest : List BusAnswer}
    {b : List Byte} (hc : (sent.map Call.tx ++ [last])[good.length]? = some c) (hb : s.bus = good ++ ⟨false, b⟩ :: rest)
    (ha : ∀ x ∈ good, x.ok = true) :
    runFrame (sent.map Call.tx ++ [last]) s = (none,
      { s with
        seq := .gap, cs := true, trace := s.trace ++ scope ((sent.take good.length).map Event.tx ++ [c.failEvent]),
        bus := rest, draws := s.draws + good.length + 1 }) := by
  obtain ⟨hlt, hget⟩ := List.getElem?_eq_some_iff.mp hc
  have hle : good.length ≤ sent.length := by
    simp only [List.length_append, List.length_map, List.length_singleton] at hlt
    omega
  have hsplit : sent.map Call.tx ++ [last] =
      (sent.take good.length).map Call.tx ++ c :: (sent.map Call.tx ++ [last]).drop (good.length + 1) := by
    conv_lhs => rw [← List.take_append_drop good.length (sent.map Call.tx ++ [last]), List.drop_eq_getElem_cons hlt, hget]
    rw [List.take_append_of_le_length (by simpa using hle), List.map_take]
  rw [hsplit, runFrame_tx_fail _ c _ hb (by simp [hle]) ha]
  simp [scope]

/-- What a page read transmits before its receive (R117). -/
def pgrdSent (p : Params) (a : Nat) : List (List Byte) := [[p.opPgrd], (encAddrOfOffset a).toList, [0, 0, 0, 0]]

/-- A page read with a failing call leaves FB alone. -/
theorem framePgrd_fail {a n : Nat} {s : State} {c : Call} {good rest : List BusAnswer} {b : List Byte}
    (hc : ((pgrdSent s.params a).map Call.tx ++ [.rx n])[good.length]? = some c)
    (hb : s.bus = good ++ ⟨false, b⟩ :: rest) (ha : ∀ x ∈ good, x.ok = true) :
    framePgrd a n s = (none,
      { s with
        cmd := { s.cmd with c0 := s.params.opPgrd }, adr := encAddrOfOffset a, seq := .gap, cs := true,
        trace := s.trace ++ scope (((pgrdSent s.params a).take good.length).map Event.tx ++ [c.failEvent]),
        bus := rest, draws := s.draws + good.length + 1 }) := by
  have hframe := runFrame_fail_of_getElem? (s := latchAdr (encAddrOfOffset a) (latchCmd (encOp s.params .pageRead) s)) hc hb ha
  have hcalls : callsWfAR (encOp s.params .pageRead) (encAddrOfOffset a) n =
      (pgrdSent s.params a).map Call.tx ++ [.rx n] := rfl
  simp only [framePgrd, hcalls, hframe]
  simp [latchAdr, latchCmd, encOp]

/-! ### Wire commands whose calls succeed, or fail -/

/-- An addressed command that runs (R115, R116, R118 to R120). -/
theorem standAlone_frameAddressed {guard : Bool} {op : LogicalOp} {opc : Byte} {a : Nat} {s : State} {b0 b1 : List Byte}
    {rest : List BusAnswer} (hguard : guard = true) (ho : encOp s.params op = [opc])
    (hb : s.bus = ⟨true, b0⟩ :: ⟨true, b1⟩ :: rest) :
    standAlone guard (frameAddressed op a) s = .next
      { s with
        cmd := { s.cmd with c0 := opc }, adr := encAddrOfOffset a, cs := true, seq := .idle,
        trace := s.trace ++ scope [.tx [opc], .tx (encAddrOfOffset a).toList], bus := rest, draws := s.draws + 2 } := by
  rw [standAlone_runs _ s hguard, frameAddressed_ok hb]
  simp [setSeq, latchAdr, latchCmd, ho, scope]

/-- Settles O13. -/
theorem addressedCommandsSend : Obligations.AddressedCommandsSend := by
  intro a s b0 b1 rest hinit hbound hb
  have hguard : ∀ u, a.toNat % u = 0 → a.toNat + u ≤ s.pageCount.toNat * 512 → guardWireUnit u a s = true :=
    fun u haligned hfits => (guardWireUnit_iff u a s).mpr ⟨⟨hinit, hbound⟩, haligned, hfits⟩
  refine ⟨fun haligned hfits => ⟨?progE, ?progNe, ?pger⟩, fun haligned hfits => ?blker, fun haligned hfits => ?secer⟩
  all_goals exact standAlone_frameAddressed (hguard _ haligned hfits) rfl hb

/-- Settles O14. -/
theorem bufferWriteSends : Obligations.BufferWriteSends := by
  intro payload s b0 b1 b2 rest hinit hbound hb
  have hguard : guardWire s = true := (guardWire_iff s).mpr ⟨hinit, hbound⟩
  refine ⟨?plain, fun c b3 more hrest => ?checksum⟩
  case plain =>
    rw [exec, execBufwr, standAlone_runs _ s hguard, frameBufwr_ok (good := [⟨true, b0⟩, ⟨true, b1⟩, ⟨true, b2⟩]) hb rfl
      (by simp)]
    simp [setSeq]
  case checksum =>
    subst hrest
    rw [exec, execBufwr, standAlone_runs _ s hguard,
      frameBufwr_ok (good := [⟨true, b0⟩, ⟨true, b1⟩, ⟨true, b2⟩, ⟨true, b3⟩]) hb rfl (by simp)]
    simp [setSeq, crcBytes]

/-- Settles O15. -/
theorem pageReadStores : Obligations.PageReadStores := by
  intro a n s rest hinit hbound hn haligned hfits
  have hguard : guardWireUnit pageSize a s = true := (guardWireUnit_iff _ a s).mpr ⟨⟨hinit, hbound⟩, haligned, hfits⟩
  have hexec : exec (.pgrd a n) s = .next (setSeq .idle (framePgrd a.toNat n s).2) :=
    (if_pos hn).trans (standAlone_runs _ s hguard)
  refine ⟨fun b0 b1 b2 bytes hlen hb => ⟨Memory.writeBytes s.fb 0 bytes, ?_, fun i => ?_⟩, fun good c b hc ha hb => ?_⟩
  · subst hlen
    rw [hexec, framePgrd_ok hb]
    simp [setSeq, scope]
  · rw [Memory.read_writeBytes]
    simp [hlen]
  · rw [hexec, framePgrd_fail hc hb ha]
    rfl

/-- Settles O17. -/
theorem fixedSequencesSend : Obligations.FixedSequencesSend := by
  intro s b0 rest hinit hbound hb
  have hguard : guardWire s = true := (guardWire_iff s).mpr ⟨hinit, hbound⟩
  have hsent : ∀ op, standAlone (guardWire s) (frameSequence op) s = .next (setSeq .idle (frameSequence op s).2) :=
    fun _ => standAlone_runs _ s hguard
  refine ⟨(hsent .chipErase).trans ?_, (hsent .pageSizeConfigure).trans ?_⟩ <;> rw [frameSequence_ok hb] <;>
    simp [setSeq, latchCmd, encOp, Bytes4.toList, Params.seqPscfg]

/-- Settles O18. -/
theorem statusReadStores : Obligations.StatusReadStores := by
  intro s b0 bytes b rest hinit hbound
  have hexec : exec .srrd s = .next (setSeq .idle (frameSrrd s).2) :=
    standAlone_runs _ s ((guardWire_iff s).mpr ⟨hinit, hbound⟩)
  rw [hexec]
  refine ⟨fun hb => ?_, fun hb => ?_, fun hb => ?_⟩
  · rw [frameSrrd_ok hb]; rfl
  · rw [frameSrrd_rx_fail hb]; rfl
  · rw [frameSrrd_tx_fail hb]; rfl

/-- Settles O19. -/
theorem identityReadReceives : Obligations.IdentityReadReceives := by
  intro s b0 bytes i0 i1 i2 i3 i4 rest hinit hbound
  have hexec : exec .idrd s = .next (setSeq .idle (frameIdrd s).2) :=
    standAlone_runs _ s ((guardWire_iff s).mpr ⟨hinit, hbound⟩)
  rw [hexec]
  refine ⟨fun hb => ?_, fun hb => ?_, fun hb => ?_⟩
  · rw [frameIdrd_ok hb]; rfl
  · rw [frameIdrd_rx_fail hb]; rfl
  · rw [frameIdrd_tx_fail hb]; rfl

/-! ### Whatever the environment answers -/

/-- A state without what one frame writes. -/
def frameKept (s : State) : State :=
  { s with
    seq := .idle, cmd := ⟨0, 0, 0, 0⟩, adr := ⟨0, 0, 0⟩, sr := 0, cs := true, fb := [], trace := [], bus := [], draws := 0 }

/-- `t` is `s` after one chip-select scope around transfers only (R156). -/
structure OneScope (s t : State) : Prop where
  kept_eq : frameKept t = frameKept s
  released : t.cs = true
  trace : ∃ evs : List Event, (∀ e ∈ evs, e.isTransfer = true) ∧ t.trace = s.trace ++ scope evs

theorem oneScope_runFrame (calls : List Call) {s s' : State} (hkept : frameKept s' = frameKept s)
    (htrace : s'.trace = s.trace) : OneScope s (runFrame calls s').2 ∧ (runFrame calls s').2.sr = s'.sr ∧
      (runFrame calls s').2.adr = s'.adr ∧ (runFrame calls s').2.fb = s'.fb := by
  obtain ⟨evs, hev, bus, draws, h⟩ := runFrame_state calls s'
  rw [h]
  exact ⟨⟨hkept, rfl, evs, hev, by rw [htrace]; rfl⟩, rfl, rfl, rfl⟩

/-- The bytes of an aligned 24-bit address are the address (R90, R111). -/
theorem encAddrOfOffset_value {a : BitVec 24} (h : a.toNat % 512 = 0) :
    ((encAddrOfOffset a.toNat).a0 ++ (encAddrOfOffset a.toNat).a1 ++ (encAddrOfOffset a.toNat).a2).toNat = a.toNat := by
  have hlt := a.isLt
  exact (addressFieldValue (a.toNat / 512) 0 (by decide)).trans (by omega)

/-- A frame that leaves `sr`, FB, and the address or none. -/
structure PlainFrame (s t : State) : Prop where
  scope : OneScope s t
  sr : t.sr = s.sr
  fb : t.fb = s.fb
  adr : t.adr = s.adr ∨ (t.adr.a0 ++ t.adr.a1 ++ t.adr.a2).toNat < s.pageCount.toNat * 512

theorem plainFrame_sequence (op : LogicalOp) (s : State) : PlainFrame s (frameSequence op s).2 :=
  have ⟨hscope, hsr, hadr, hfb⟩ := oneScope_runFrame (callsWf4 (encOp s.params op)) (s := s)
    (s' := latchCmd (encOp s.params op) s) rfl rfl
  ⟨hscope, hsr, hfb, .inl hadr⟩

theorem plainFrame_idrd (s : State) : PlainFrame s (frameIdrd s).2 :=
  have ⟨hscope, hsr, hadr, hfb⟩ := oneScope_runFrame (callsWfR (encOp s.params .idRead) idBytes) (s := s)
    (s' := latchCmd (encOp s.params .idRead) s) rfl rfl
  ⟨hscope, hsr, hfb, .inl hadr⟩

theorem plainFrame_bufwr (payload : List Byte) (c : Option (BitVec 16)) {s : State} (hinit : s.pageCount ≠ 0) :
    PlainFrame s (frameBufwr payload c s).2 := by
  obtain ⟨hscope, hsr, hadr, hfb⟩ := oneScope_runFrame
    (callsWfAD (encOp s.params .bufferWrite) (encAddr 0 0) payload c) (s := s)
    (s' := latchAdr (encAddr 0 0) (latchCmd (encOp s.params .bufferWrite) s)) rfl rfl
  refine ⟨hscope, hsr, hfb, .inr ?_⟩
  have hpos : 0 < s.pageCount.toNat := Nat.pos_of_ne_zero fun h => hinit (BitVec.eq_of_toNat_eq h)
  rw [frameBufwr, hadr, latchAdr_adr, show encAddr 0 0 = ⟨0, 0, 0⟩ by decide]
  exact Nat.mul_pos hpos (by decide)

theorem plainFrame_addressed (op : LogicalOp) {a : BitVec 24} {s : State} (haligned : a.toNat % 512 = 0)
    (hbound : a.toNat < s.pageCount.toNat * 512) : PlainFrame s (frameAddressed op a.toNat s).2 := by
  obtain ⟨hscope, hsr, hadr, hfb⟩ := oneScope_runFrame (callsWfA (encOp s.params op) (encAddrOfOffset a.toNat)) (s := s)
    (s' := latchAdr (encAddrOfOffset a.toNat) (latchCmd (encOp s.params op) s)) rfl rfl
  refine ⟨hscope, hsr, hfb, .inr ?_⟩
  rw [frameAddressed, hadr, latchAdr_adr, encAddrOfOffset_value haligned]
  exact hbound

/-- A status read writes `sr` only with a byte that its trace shows (R122). -/
theorem frameSrrd_any (s : State) : OneScope s (frameSrrd s).2 ∧ (frameSrrd s).2.fb = s.fb ∧ (frameSrrd s).2.adr = s.adr ∧
    ((frameSrrd s).2.sr = s.sr ∨
      (frameSrrd s).2.trace = s.trace ++ scope [.tx [s.params.opSrrd], .rx [(frameSrrd s).2.sr]]) := by
  obtain ⟨hscope, hsr, hadr, hfb⟩ := oneScope_runFrame (callsWfR (encOp s.params .statusRead) 1) (s := s)
    (s' := latchCmd (encOp s.params .statusRead) s) rfl rfl
  simp only [frameSrrd]
  rcases runFrame_wfR (encOp s.params .statusRead) 1 (latchCmd (encOp s.params .statusRead) s) with
    hnone | ⟨bytes, hlen, bus, draws, hsome⟩
  · rw [hnone]
    exact ⟨hscope, hfb, hadr, .inl hsr⟩
  · obtain ⟨b, rfl⟩ := List.length_eq_one_iff.mp hlen
    rw [hsome] at hscope ⊢
    exact ⟨⟨hscope.kept_eq, hscope.released, hscope.trace⟩, rfl, rfl, .inr rfl⟩

/-- A page read writes FB only with the bytes that its trace shows (R117). -/
theorem framePgrd_any (a n : Nat) (s : State) : OneScope s (framePgrd a n s).2 ∧ (framePgrd a n s).2.sr = s.sr ∧
    (framePgrd a n s).2.adr = encAddrOfOffset a ∧
    ((framePgrd a n s).2.fb = s.fb ∨ ∃ bytes : List Byte, bytes.length = n ∧
      (framePgrd a n s).2.trace = s.trace ++ scope ((pgrdSent s.params a).map Event.tx ++ [.rx bytes]) ∧
      (framePgrd a n s).2.fb = Memory.writeBytes s.fb 0 bytes) := by
  obtain ⟨hscope, hsr, hadr, hfb⟩ := oneScope_runFrame (callsWfAR (encOp s.params .pageRead) (encAddrOfOffset a) n) (s := s)
    (s' := latchAdr (encAddrOfOffset a) (latchCmd (encOp s.params .pageRead) s)) rfl rfl
  simp only [framePgrd]
  rcases runFrame_wfAR (encOp s.params .pageRead) (encAddrOfOffset a) n
    (latchAdr (encAddrOfOffset a) (latchCmd (encOp s.params .pageRead) s)) with hnone | ⟨bytes, hlen, bus, draws, hsome⟩
  · rw [hnone]
    exact ⟨hscope, hsr, hadr, .inl hfb⟩
  · rw [hsome] at hscope ⊢
    exact ⟨⟨hscope.kept_eq, hscope.released, hscope.trace⟩, rfl, rfl, .inr ⟨bytes, hlen, rfl, rfl⟩⟩

/-- What O20 says of a wire command that runs, on the state its frame leaves. -/
structure WireFrame (i : Instr) (s t : State) : Prop where
  scope : OneScope s t
  sr : t.sr = s.sr ∨ i = .srrd ∧ t.trace = s.trace ++ Machine.scope [.tx [s.params.opSrrd], .rx [t.sr]]
  adr : t.adr = s.adr ∨ (t.adr.a0 ++ t.adr.a1 ++ t.adr.a2).toNat < s.pageCount.toNat * 512
  fb : t.fb = s.fb ∨ ∃ (a : BitVec 24) (bytes : List Byte), i = .pgrd a bytes.length ∧
    t.trace = s.trace ++ Machine.scope [.tx [s.params.opPgrd], .tx (encAddrOfOffset a.toNat).toList, .tx [0, 0, 0, 0],
      .rx bytes] ∧
    ∀ k, Memory.read t.fb k = if k < bytes.length then bytes[k]? else Memory.read s.fb k

theorem PlainFrame.wireFrame {i : Instr} {s t : State} (h : PlainFrame s t) : WireFrame i s t :=
  ⟨h.scope, .inl h.sr, h.adr, .inl h.fb⟩

/-- A wire command that runs is its frame, the sequencer idle again. -/
theorem exec_wire_runs {i : Instr} {s : State} (hi : isWire i = true) (hcount : ∀ a n, i = .pgrd a n → n ≤ pageSize)
    (h : WireRuns s i) : ∃ u, exec i s = .next (setSeq .idle u) ∧ WireFrame i s u := by
  obtain ⟨hinit, hbound, hfits⟩ := h
  have hwire : guardWire s = true := (guardWire_iff s).mpr ⟨hinit, hbound⟩
  have hunit : ∀ u (a : BitVec 24), a.toNat % u = 0 ∧ a.toNat + u ≤ s.pageCount.toNat * 512 → guardWireUnit u a s = true :=
    fun u a h => (guardWireUnit_iff u a s).mpr ⟨⟨hinit, hbound⟩, h⟩
  cases i with
  | bufwr payload c => exact ⟨_, standAlone_runs _ s hwire, (plainFrame_bufwr _ _ hinit).wireFrame⟩
  | chiper | pscfg => exact ⟨_, standAlone_runs _ s hwire, (plainFrame_sequence _ s).wireFrame⟩
  | idrd => exact ⟨_, standAlone_runs _ s hwire, (plainFrame_idrd s).wireFrame⟩
  | progE a | progNe a | pger a | blker a | secer a =>
    obtain ⟨haligned, hlast⟩ := hfits
    exact ⟨_, standAlone_runs _ s (hunit _ a ⟨haligned, hlast⟩),
      (plainFrame_addressed _ (by omega) (by omega)).wireFrame⟩
  | srrd =>
    obtain ⟨hscope, hfb, hadr, hsr⟩ := frameSrrd_any s
    exact ⟨_, standAlone_runs _ s hwire, hscope, hsr.imp_right fun h => ⟨rfl, h⟩, .inl hadr, .inl hfb⟩
  | pgrd a n =>
    obtain ⟨hscope, hsr, hadr, hfb⟩ := framePgrd_any a.toNat n s
    refine ⟨_, (if_pos (hcount a n rfl)).trans (standAlone_runs _ s (hunit _ a hfits)), hscope, .inl hsr, .inr ?_,
      hfb.imp_right ?_⟩
    · obtain ⟨haligned, hlast⟩ := hfits
      rw [hadr, encAddrOfOffset_value haligned]
      omega
    · rintro ⟨bytes, rfl, htrace, hfb⟩
      refine ⟨a, bytes, rfl, htrace, fun k => ?_⟩
      rw [hfb, Memory.read_writeBytes]
      simp
  | init | write | read | erasePage | eraseBlock | eraseSector | eraseChip | eraseUnrecognised | isBusy | reserved5
  | reserved67 => cases hi

/-- Settles O20. -/
theorem wireCommandIsOneScope : Obligations.WireCommandIsOneScope := by
  intro i s t hi hexec
  have hcount : ∀ a n, i = .pgrd a n → n ≤ pageSize := by
    rintro a n rfl
    by_contra hn
    rw [pageReadPastFrameBufferStops a n s (Nat.not_le.mp hn)] at hexec
    cases hexec
  refine ⟨fun hruns hcs => ?_, fun hruns => ?_⟩
  · rw [exec_wire_rejected hi hcount hruns hcs] at hexec
    cases hexec
    rfl
  · obtain ⟨u, hu, hscope, hsr, hadr, hfb⟩ := exec_wire_runs hi hcount hruns
    rw [hu] at hexec
    cases hexec
    have hkept := hscope.kept_eq
    simp only [frameKept, State.mk.injEq] at hkept
    exact ⟨hscope.trace, hscope.released, rfl, by tauto⟩

end Sys2Proof.Machine
end

section
/-! WRITE, READ, ERASE and ISBUSY under answers that are given (43_operations.md R190 to R206; 42_framing_poll.md R165). -/

namespace Sys2Proof.Machine

/-! ### WRITE and ERASE without a wait, and with a delay -/

section Admitted
variable {s latched : State} {i : Instr} {time : Tick} {frames : List (List (List Byte))} {good rest : List BusAnswer}

theorem exec_of_admitted_noWait (h : Admitted s .noWait i time frames latched) (hb : s.bus = good ++ rest)
    (hl : good.length = frames.flatten.length) (ha : ∀ x ∈ good, x.ok = true) :
    exec i s = .next (ended .ready
      { latched with cs := true, trace := s.trace ++ scopesOf frames, bus := rest, draws := s.draws + good.length }) :=
  exec_of_admitted h hb hl ha

theorem readTick_of_ticks {u : State} {now : Tick} {ticks : List Tick} (h : u.ticks = now :: ticks) :
    nextTick u = now ∧
      readTick u = { u with trace := u.trace ++ [.tick now], ticks := ticks, draws := u.draws + 1 } := by
  simp [nextTick, readTick, h]

theorem startWait_of_ticks {u : State} {now : Tick} {ticks : List Tick} (h : u.ticks = now :: ticks) :
    startWait u =
      { u with seq := .wait, t0 := now, trace := u.trace ++ [.tick now], ticks := ticks, draws := u.draws + 1 } := by
  simp [startWait, nextTick, readTick, h]

/-- A pass of a completion delay at a tick that has passed it (R164). -/
theorem completeDelay_passed {u : State} {delay now : Tick} {ticks : List Tick} (ht : u.ticks = now :: ticks)
    (h : delay ≤ now - u.t0) : completeDelay delay u =
      ended .ready { u with trace := u.trace ++ [.tick now], ticks := ticks, draws := u.draws + 1 } := by
  obtain ⟨hnow, hread⟩ := readTick_of_ticks ht
  rcases completeDelay_cases delay u with ⟨-, heq⟩ | ⟨hlt, -⟩
  · rw [heq, hread]; rfl
  · rw [hnow] at hlt
    exact absurd h (BitVec.not_le.mpr hlt)

theorem completeDelay_early {u : State} {delay now : Tick} {ticks : List Tick} (ht : u.ticks = now :: ticks)
    (h : now - u.t0 < delay) : completeDelay delay u =
      { u with
        trace := u.trace ++ [.tick now], ticks := ticks, draws := u.draws + 1, flight := some (.delay delay) } := by
  obtain ⟨hnow, hread⟩ := readTick_of_ticks ht
  rcases completeDelay_cases delay u with ⟨hle, -⟩ | ⟨-, heq⟩
  · rw [hnow] at hle
    exact absurd hle (BitVec.not_le.mpr h)
  · rw [heq, hread]; rfl

end Admitted

/-- Settles O42: the wait's first pass follows the frames in the request's own step. -/
theorem delayCompletionStarts : Obligations.DelayCompletionStarts := by
  intro s latched i delay frames h good rest t0 now ticks hl ha hb hticks
  have hticks' : latched.ticks = t0 :: now :: ticks := by cases h <;> exact hticks
  rw [exec_of_admitted h hb hl ha, complete, startWait_of_ticks (by exact hticks')]
  refine ⟨fun hpassed => ?_, fun hearly => ?_⟩
  · rw [completeDelay_passed rfl hpassed]
    simp [ended]
  · rw [completeDelay_early rfl hearly]
    simp

/-- Settles O27. -/
theorem writeSucceeds : Obligations.WriteSucceeds := by
  intro s crc ebw length address good rest hlength hfits haligned hbound hb hl ha
  have hadmitted := Admitted.write (policy := .noWait) crc ebw length address nofun hlength hfits haligned hbound
  rw [exec_of_admitted_noWait hadmitted hb (by rw [hl]; cases crc <;> rfl) ha]
  cases crc <;> simp [scopesOf, ended]

/-- Settles O34. -/
theorem addressedErasesSucceed : Obligations.AddressedErasesSucceed := by
  intro s address b0 b1 rest hb hinit
  have ha : ∀ x ∈ [(⟨true, b0⟩ : BusAnswer), ⟨true, b1⟩], x.ok = true := by simp
  refine ⟨fun haligned hbound => ?page, fun haligned hbound => ?block, fun haligned hbound => ?sector⟩
  case page => exact exec_of_admitted_noWait (.erasePage address nofun hinit haligned hbound) hb rfl ha
  case block => exact exec_of_admitted_noWait (.eraseBlock address nofun hinit haligned hbound) hb rfl ha
  case sector => exact exec_of_admitted_noWait (.eraseSector address nofun hinit haligned hbound) hb rfl ha

/-- Settles O35. -/
theorem chipEraseSucceeds : Obligations.ChipEraseSucceeds := by
  intro s b0 rest hb hinit
  exact exec_of_admitted_noWait (good := [⟨true, b0⟩]) (.eraseChip nofun hinit) hb rfl (by simp)

/-! ### A failing transfer in WRITE or ERASE -/

/-- A frame of transmits only, of which `c` is the first to fail. -/
theorem runFrame_map_tx_fail {sent pre post : List (List Byte)} {c : List Byte} {s : State} {good rest : List BusAnswer}
    {b : List Byte} (hsent : pre ++ c :: post = sent) (hb : s.bus = good ++ ⟨false, b⟩ :: rest)
    (hl : good.length = pre.length) (ha : ∀ x ∈ good, x.ok = true) :
    runFrame (sent.map Call.tx) s = (none,
      { s with
        seq := .gap, cs := true, trace := s.trace ++ (.cs0 :: pre.map Event.tx ++ [.txFail c, .cs1]), bus := rest,
        draws := s.draws + good.length + 1 }) := by
  subst hsent
  rw [List.map_append, List.map_cons, runFrame_tx_fail pre (.tx c) _ hb hl ha]
  rfl

section Fails
variable {s : State} {pre post : List (List Byte)} {c b : List Byte} {good rest : List BusAnswer}

theorem frameAddressed_fail {op : LogicalOp} {a : Nat}
    (hsent : pre ++ c :: post = [encOp s.params op, (encAddrOfOffset a).toList])
    (hb : s.bus = good ++ ⟨false, b⟩ :: rest) (hl : good.length = pre.length) (ha : ∀ x ∈ good, x.ok = true) :
    frameAddressed op a s = (none,
      { latchAdr (encAddrOfOffset a) (latchCmd (encOp s.params op) s) with
        seq := .gap, cs := true, trace := s.trace ++ (.cs0 :: pre.map Event.tx ++ [.txFail c, .cs1]), bus := rest,
        draws := s.draws + good.length + 1 }) :=
  runFrame_map_tx_fail (s := latchAdr (encAddrOfOffset a) (latchCmd (encOp s.params op) s)) hsent hb hl ha

theorem frameSequence_fail {op : LogicalOp} (hsent : pre ++ c :: post = [encOp s.params op])
    (hb : s.bus = good ++ ⟨false, b⟩ :: rest) (hl : good.length = pre.length) (ha : ∀ x ∈ good, x.ok = true) :
    frameSequence op s = (none,
      { latchCmd (encOp s.params op) s with
        seq := .gap, cs := true, trace := s.trace ++ (.cs0 :: pre.map Event.tx ++ [.txFail c, .cs1]), bus := rest,
        draws := s.draws + good.length + 1 }) :=
  runFrame_map_tx_fail (s := latchCmd (encOp s.params op) s) hsent hb hl ha

/-- The byte lists a BUFWR transmits (R114, R144). -/
def bufwrSent (p : Params) (payload : List Byte) (checksum : Option (BitVec 16)) : List (List Byte) :=
  [[p.opBufwr], [0, 0, 0], payload] ++ (checksum.map fun v => [crcBytes v]).getD []

theorem callsWfAD_eq_map (p : Params) (payload : List Byte) (checksum : Option (BitVec 16)) :
    callsWfAD (encOp p .bufferWrite) (encAddr 0 0) payload checksum = (bufwrSent p payload checksum).map Call.tx := by
  have h0 : (encAddr 0 0).toList = [0, 0, 0] := by decide
  cases checksum <;> simp [callsWfAD, bufwrSent, encOp, h0]

theorem frameBufwr_fail {payload : List Byte} {checksum : Option (BitVec 16)}
    (hsent : pre ++ c :: post = bufwrSent s.params payload checksum)
    (hb : s.bus = good ++ ⟨false, b⟩ :: rest) (hl : good.length = pre.length) (ha : ∀ x ∈ good, x.ok = true) :
    frameBufwr payload checksum s = (none,
      { s with
        cmd := { s.cmd with c0 := s.params.opBufwr }, adr := ⟨0, 0, 0⟩, seq := .gap, cs := true,
        trace := s.trace ++ (.cs0 :: pre.map Event.tx ++ [.txFail c, .cs1]), bus := rest,
        draws := s.draws + good.length + 1 }) := by
  rw [frameBufwr, callsWfAD_eq_map, runFrame_map_tx_fail hsent (by exact hb) hl ha]
  simp [latchAdr, latchCmd, encOp, show encAddr 0 0 = ⟨0, 0, 0⟩ by decide]

/-- An addressed erase whose guards pass and whose frame fails (R198). -/
theorem eraseUnit_fail {u : Nat} {op : LogicalOp} {opc : Byte} {policy : Policy} {address : BitVec 32} (t : Tick)
    (hguard : guardErase u policy address s = true) (ho : encOp s.params op = [opc])
    (hsent : pre ++ c :: post = [[opc], (encAddrOfOffset address.toNat).toList])
    (hb : s.bus = good ++ ⟨false, b⟩ :: rest) (hl : good.length = pre.length) (ha : ∀ x ∈ good, x.ok = true) :
    eraseUnit u op t policy address s = ended .errorTimeout
      { s with
        cmd := { s.cmd with c0 := opc }, adr := encAddrOfOffset address.toNat, cs := true,
        trace := s.trace ++ (.cs0 :: pre.map Event.tx ++ [.txFail c, .cs1]), bus := rest,
        draws := s.draws + good.length + 1 } := by
  have hframe := frameAddressed_fail (s := startOperation .busyErase s) (op := op) (a := address.toNat) (post := post)
    (by rw [startOperation_params, ho]; exact hsent) hb hl ha
  refine (if_pos hguard).trans ?_
  simp only [hframe]
  rw [raise_eq_ended _ rfl]
  simp [ended, startOperation, latchAdr, latchCmd, ho, ErrorKind.status]

theorem exec_eraseChip_fail {policy : Policy} (hguard : guardChip policy 0 s = true)
    (hsent : pre ++ c :: post = [s.params.seqChiper.toList])
    (hb : s.bus = good ++ ⟨false, b⟩ :: rest) (hl : good.length = pre.length) (ha : ∀ x ∈ good, x.ok = true) :
    exec (.eraseChip policy 0) s = .next (ended .errorTimeout
      { s with
        cmd := ⟨s.params.seqChiper.b0, s.params.seqChiper.b1, s.params.seqChiper.b2, s.params.seqChiper.b3⟩, cs := true,
        trace := s.trace ++ (.cs0 :: pre.map Event.tx ++ [.txFail c, .cs1]), bus := rest,
        draws := s.draws + good.length + 1 }) := by
  have hframe := frameSequence_fail (s := startOperation .busyErase s) (op := .chipErase) (post := post) hsent hb hl ha
  refine congrArg Host.Outcome.next ((if_pos hguard).trans ?_)
  simp only [hframe]
  rw [raise_eq_ended _ rfl]
  simp [ended, startOperation, latchCmd, encOp, Bytes4.toList, ErrorKind.status]

/-- A WRITE whose buffer load fails sends no program command (R190). -/
theorem writeFrames_fail_first {policy : Policy} {crc ebw : Bool} {length address : Nat}
    (hsent : pre ++ c :: post = bufwrSent s.params (hostBytes s length) (writeChecksum crc (hostBytes s length)))
    (hb : s.bus = good ++ ⟨false, b⟩ :: rest) (hl : good.length = pre.length) (ha : ∀ x ∈ good, x.ok = true) :
    writeFrames policy crc ebw length address s = ended .errorTimeout
      { s with
        cmd := { s.cmd with c0 := s.params.opBufwr }, adr := ⟨0, 0, 0⟩, cs := true,
        crc := if crc then crc16 (hostBytes s length) else s.crc,
        trace := s.trace ++ (.cs0 :: pre.map Event.tx ++ [.txFail c, .cs1]), bus := rest,
        draws := s.draws + good.length + 1 } := by
  have hlatched : latchChecksum (writeChecksum crc (hostBytes s length)) s =
      { s with crc := if crc then crc16 (hostBytes s length) else s.crc } := by
    cases crc <;> rfl
  have hframe := frameBufwr_fail (s := latchChecksum (writeChecksum crc (hostBytes s length)) s) (post := post)
    (by rw [hlatched]; exact hsent) (by rw [hlatched]; exact hb) hl ha
  simp only [writeFrames, hframe]
  rw [raise_eq_ended _ rfl, hlatched]
  rfl

/-- A WRITE whose program command fails (R190). -/
theorem writeFrames_fail_second {policy : Policy} {crc ebw : Bool} {length address : Nat} {load : List BusAnswer}
    (hsent : pre ++ c :: post = [[if ebw then s.params.opProgE else s.params.opProgNe], (encAddrOfOffset address).toList])
    (hb : s.bus = load ++ (good ++ ⟨false, b⟩ :: rest)) (hload : load.length = if crc then 4 else 3)
    (hl : good.length = pre.length) (ha : ∀ x ∈ load ++ good, x.ok = true) :
    writeFrames policy crc ebw length address s = ended .errorTimeout
      { s with
        cmd := { s.cmd with c0 := if ebw then s.params.opProgE else s.params.opProgNe }, adr := encAddrOfOffset address,
        cs := true, crc := if crc then crc16 (hostBytes s length) else s.crc,
        trace := s.trace ++ (.cs0 :: (bufwrSent s.params (hostBytes s length)
          (writeChecksum crc (hostBytes s length))).map Event.tx ++ [.cs1]) ++
          (.cs0 :: pre.map Event.tx ++ [.txFail c, .cs1]),
        bus := rest, draws := s.draws + (load ++ good).length + 1 } := by
  have hlatched : latchChecksum (writeChecksum crc (hostBytes s length)) s =
      { s with crc := if crc then crc16 (hostBytes s length) else s.crc } := by
    cases crc <;> rfl
  have hop : encOp s.params (programOp ebw) = [if ebw then s.params.opProgE else s.params.opProgNe] := by
    cases ebw <;> rfl
  have hframe := frameBufwr_ok (payload := hostBytes s length) (c := writeChecksum crc (hostBytes s length))
    (s := latchChecksum (writeChecksum crc (hostBytes s length)) s) (good := load) (by rw [hlatched]; exact hb)
    (by cases crc <;> exact hload) (fun x hx => ha x (List.mem_append_left _ hx))
  simp only [writeFrames, hframe, writeProgram]
  rw [frameAddressed_fail (post := post) (by rw [hlatched, hop]; exact hsent) rfl hl
    (fun x hx => ha x (List.mem_append_right _ hx))]
  simp only
  rw [raise_eq_ended _ rfl, hlatched]
  cases crc <;> simp [ended, latchAdr, latchCmd, hop, bufwrSent, writeChecksum, ErrorKind.status] <;> omega

end Fails

theorem append_cons_eq_singleton {α : Type} {l r : List α} {x a : α} (h : l ++ x :: r = [a]) : l = [] ∧ x = a ∧ r = [] := by
  cases l <;> simp_all

theorem append_cons_eq_pair {α : Type} {l r : List α} {x a b : α} (h : l ++ x :: r = [a, b]) :
    l = [] ∧ x = a ∧ r = [b] ∨ l = [a] ∧ x = b ∧ r = [] := by
  cases l with
  | nil => simp_all
  | cons y l =>
    obtain ⟨rfl, hl⟩ := List.cons.inj h
    obtain ⟨rfl, rfl, rfl⟩ := append_cons_eq_singleton hl
    exact .inr ⟨rfl, rfl, rfl⟩

theorem hostBytes_startOperation (v : Status) (s : State) (n : Nat) : hostBytes (startOperation v s) n = hostBytes s n := rfl

/-- The guards of a WRITE that is admitted. -/
theorem guardWrite_of_fits {s : State} {policy : Policy} {crc : Bool} {length : BitVec 16} {address : BitVec 32}
    (valid : policy ≠ .reserved) (nonempty : length ≠ 0) (fits : length.toNat + (if crc then 2 else 0) ≤ 512)
    (aligned : address.toNat % 512 = 0) (bound : address.toNat < s.pageCount.toNat * 512) :
    guardWrite policy crc true length address s = true := by
  refine (guardWrite_iff _ _ _ _ _ _).mpr ⟨fun h0 => ?_, ⟨nonempty, rfl, fits, aligned, bound⟩, valid⟩
  simp [h0] at bound

/-- R190, R198, R202: which frame the failing transfer is in decides where the operation stops. -/
theorem exec_of_admitted_fail {s latched : State} {policy : Policy} {i : Instr} {time : Tick}
    {before after : List (List (List Byte))} {pre post : List (List Byte)} {c b : List Byte} {good rest : List BusAnswer}
    (h : Admitted s policy i time (before ++ (pre ++ c :: post) :: after) latched)
    (hb : s.bus = good ++ ⟨false, b⟩ :: rest) (hl : good.length = before.flatten.length + pre.length)
    (ha : ∀ x ∈ good, x.ok = true) :
    exec i s = .next (ended .errorTimeout
      { latched with
        cmd := if after.isEmpty then latched.cmd else { s.cmd with c0 := s.params.opBufwr },
        adr := if after.isEmpty then latched.adr else ⟨0, 0, 0⟩, cs := true,
        trace := s.trace ++ scopesOf before ++ (.cs0 :: pre.map Event.tx ++ [.txFail c, .cs1]), bus := rest,
        draws := s.draws + good.length + 1 }) := by
  generalize hframes : before ++ (pre ++ c :: post) :: after = frames at h
  cases h with
  | write crc ebw length address valid nonempty fits aligned bound =>
    have hload : bufwrSent s.params (hostBytes s length.toNat) (writeChecksum crc (hostBytes s length.toNat)) =
        [[s.params.opBufwr], [0, 0, 0], hostBytes s length.toNat] ++
          (if crc then [crcBytes (crc16 (hostBytes s length.toNat))] else []) := by
      cases crc <;> rfl
    refine congrArg Host.Outcome.next ((if_pos (guardWrite_of_fits valid nonempty fits aligned bound)).trans ?_)
    rcases append_cons_eq_pair hframes with ⟨rfl, hsent, rfl⟩ | ⟨rfl, hsent, rfl⟩
    · rw [writeFrames_fail_first (s := startOperation .busyWrite s) (post := post) (hsent.trans hload.symm) hb
        (by simpa using hl) ha, hostBytes_startOperation]
      simp [ended, startOperation, scopesOf]
    · have hlen : good.length = (if crc then 4 else 3) + pre.length := by
        rw [hl]
        cases crc <;> rfl
      have hsplit := List.take_append_drop (if crc then 4 else 3) good
      rw [writeFrames_fail_second (s := startOperation .busyWrite s) (post := post)
        (load := good.take (if crc then 4 else 3)) (good := good.drop (if crc then 4 else 3)) hsent
        (by rw [← List.append_assoc, hsplit]; exact hb) (by rw [List.length_take, hlen]; omega)
        (by rw [List.length_drop, hlen]; omega) (by rwa [hsplit]), hsplit]
      simp only [startOperation_params, hostBytes_startOperation, hload]
      simp [ended, startOperation, scopesOf]
  | erasePage address valid init aligned bound | eraseBlock address valid init aligned bound
  | eraseSector address valid init aligned bound =>
    obtain ⟨rfl, hsent, rfl⟩ := append_cons_eq_singleton hframes
    refine congrArg Host.Outcome.next ((eraseUnit_fail _ ((guardErase_iff _ _ _ _).mpr ⟨init, ⟨aligned, bound⟩, valid⟩) rfl
      hsent hb (by simpa using hl) ha).trans ?_)
    simp [ended, scopesOf]
  | eraseChip valid init =>
    obtain ⟨rfl, hsent, rfl⟩ := append_cons_eq_singleton hframes
    refine (exec_eraseChip_fail ((guardChip_iff _ _ _).mpr ⟨init, rfl, valid⟩) hsent hb (by simpa using hl) ha).trans ?_
    simp [ended, scopesOf]

/-! ### READ -/

/-- A READ whose guards and grant pass is its frame (R195). -/
theorem exec_read_granted {s : State} {crc : Bool} {length : BitVec 16} {address : BitVec 32} (nonempty : length ≠ 0)
    (fits : length.toNat + (if crc then 2 else 0) ≤ 512) (aligned : address.toNat % 512 = 0)
    (bound : address.toNat < s.pageCount.toNat * 512) (grant : s.frameGrant = true) :
    exec (.read crc true length address) s = .next (readFrame crc length address.toNat (startOperation .busyRead s)) := by
  have hguard : guardRead crc true length address (startOperation .busyRead s) = true := by
    refine (guardRead_iff _ _ _ _ _).mpr ⟨fun h0 => ?_, nonempty, rfl, fits, aligned, bound⟩
    have h0' : s.pageCount = 0 := h0
    simp [h0'] at bound
  simp [exec, execRead, opRead, hguard, grant]

/-- Settles O29. -/
theorem dataTransportErrors : Obligations.DataTransportErrors := by
  refine ⟨fun s latched policy i time before after pre post c b good rest h hb hl ha =>
    exec_of_admitted_fail h hb hl ha, ?_⟩
  intro s crc length address c b good rest nonempty fits aligned bound grant sent hc hb ha
  have hframe := framePgrd_fail (s := startOperation .busyRead s) (a := address.toNat) (n := frameLength crc length) hc hb ha
  rw [exec_read_granted nonempty fits aligned bound grant]
  simp only [readFrame, hframe]
  rw [raise_eq_ended _ rfl]
  simp [ended, startOperation, scope, pgrdSent, sent, ErrorKind.status]

theorem fbBytes_eq_take {u : State} {m : Memory} {bytes : List Byte} (h : u.fb = Memory.writeBytes m 0 bytes) {n : Nat}
    (hn : n ≤ bytes.length) : fbBytes u n = bytes.take n := by
  rw [← fbBytes_storeFb bytes { u with fb := m } hn]
  simp [fbBytes, fbByte, storeFb, h]

theorem read_writeBytes_zero (m : Memory) (bytes : List Byte) (i : Nat) :
    Memory.read (Memory.writeBytes m 0 bytes) i = if i < bytes.length then bytes[i]? else Memory.read m i := by
  rw [Memory.read_writeBytes]
  simp

/-- What READ's frame leaves when its calls succeed, before the bytes are used (R195). -/
def readReceived (s : State) (address : Nat) (bytes : List Byte) (rest : List BusAnswer) : State :=
  { s with
    cmd := { s.cmd with c0 := s.params.opPgrd }, adr := encAddrOfOffset address, cs := true, seq := .verify,
    fb := Memory.writeBytes s.fb 0 bytes,
    trace := s.trace ++ [.cs0, .tx [s.params.opPgrd], .tx (encAddrOfOffset address).toList, .tx [0, 0, 0, 0],
      .rx bytes, .cs1],
    bus := rest, draws := s.draws + 4 }

theorem readFrame_ok {crc : Bool} {length : BitVec 16} {address : Nat} {s : State} {b0 b1 b2 bytes : List Byte}
    {rest : List BusAnswer} (hlen : bytes.length = frameLength crc length)
    (hb : s.bus = ⟨true, b0⟩ :: ⟨true, b1⟩ :: ⟨true, b2⟩ :: ⟨true, bytes⟩ :: rest) :
    readFrame crc length address s =
      if crc then readVerify length.toNat (readReceived s address bytes rest)
      else readCopyOut length.toNat (readReceived s address bytes rest) := by
  simp only [readFrame, ← hlen, framePgrd_ok hb]
  rfl

/-- Settles O30. -/
theorem readSucceeds : Obligations.ReadSucceeds := by
  intro s length address b0 b1 b2 bytes rest nonempty fits aligned bound grant hlen hb
  refine ⟨Memory.writeBytes s.fb 0 bytes, Memory.writeBytes s.hostBuf 0 bytes, ?_, fun i => ?_, fun i => ?_⟩
  · rw [exec_read_granted nonempty (by simpa using fits) aligned bound grant,
      readFrame_ok (by simpa [frameLength_eq] using hlen) (by exact hb), if_neg (by simp), readCopyOut,
      fbBytes_eq_take (m := s.fb) rfl (Nat.le_of_eq hlen.symm), ← hlen, List.take_length]
    rfl
  · rw [read_writeBytes_zero, hlen]
  · rw [read_writeBytes_zero, hlen]

/-- Settles O31: what stands in FB is the payload and the two bytes it is checked against. -/
theorem readVerifies : Obligations.ReadVerifies := by
  intro s length address b0 b1 b2 payload hi lo rest nonempty fits aligned bound grant hlen hb
  refine ⟨Memory.writeBytes s.fb 0 (payload ++ [hi, lo]), Memory.writeBytes s.hostBuf 0 payload, ?_⟩
  have hexec : exec (.read true true length address) s = .next (readVerify length.toNat
      (readReceived (startOperation .busyRead s) address.toNat (payload ++ [hi, lo]) rest)) := by
    rw [exec_read_granted nonempty (by simpa using fits) aligned bound grant,
      readFrame_ok (bytes := payload ++ [hi, lo]) (by simp [frameLength_eq, hlen]) (by exact hb), if_pos rfl]
  have hpayload : ∀ u : State, u.fb = Memory.writeBytes s.fb 0 (payload ++ [hi, lo]) →
      fbBytes u length.toNat = payload := fun u hu => by
    rw [fbBytes_eq_take hu (by simp [hlen]), ← hlen, List.take_left]
  have hframe : ∀ u : State, u.fb = Memory.writeBytes s.fb 0 (payload ++ [hi, lo]) →
      fbBytes u (length.toNat + 2) = payload ++ [hi, lo] := fun u hu => by
    rw [fbBytes_eq_take hu (by simp [hlen]), ← hlen, List.take_of_length_le (by simp)]
  have hcheck : crcCheck (payload ++ [hi, lo]) length.toNat = true ↔ crc16 payload = hi ++ lo := by
    rw [← hlen]
    exact crcCheck_append_iff payload hi lo
  refine ⟨fun heq => ?equal, fun hne => ?mismatch, fun i => ?host, fun i => ?fb⟩
  case equal =>
    rw [hexec, readVerify, hframe _ rfl, if_pos (hcheck.mpr heq), readCopyOut, hpayload _ rfl, hpayload _ rfl]
    rfl
  case mismatch =>
    rw [hexec, readVerify, hframe _ rfl, if_neg (fun h => hne (hcheck.mp h)), hpayload _ rfl, raise_eq_ended _ rfl]
    rfl
  case host => rw [read_writeBytes_zero, hlen]
  case fb => rw [read_writeBytes_zero, List.length_append, hlen]; rfl

/-- Settles O33: HostBuf is written in the exit to Ready alone, from bytes that the frame has put into FB. -/
theorem readWritesHostOnlyOnReady : Obligations.ReadWritesHostOnlyOnReady := by
  intro s t crc buf length address hexec
  cases executes_of_exec hexec with
  | rejected e _ _ => exact ⟨fun _ => raise_hostBuf e s, fun h => by cases e <;> cases h⟩
  | wire kind _ _ _ => cases kind
  | data kind _ _ _ _ => cases kind
  | read _ _ _ _ _ ends =>
    cases ends with
    | timedOut w => exact ⟨fun _ => (raise_hostBuf _ _).trans w.hostBuf, nofun⟩
    | mismatch w => exact ⟨fun _ => (raise_hostBuf _ _).trans w.hostBuf, nofun⟩
    | @copied u w filled =>
      refine ⟨fun h => absurd rfl h, fun _ => ⟨fun i hi => ⟨?_, filled i hi⟩, fun i hi => ?_⟩⟩
      · obtain ⟨v, hv⟩ := Option.isSome_iff_exists.mp (filled i hi)
        simp [Memory.read_writeBytes_inside, hi, fbBytes, fbByte, hv]
      · simp [Memory.read_writeBytes_outside, hi, w.hostBuf]

/-! ### ISBUSY -/

/-- Settles O39. -/
theorem isBusyAnswers : Obligations.IsBusyAnswers := by
  refine fun s => ⟨fun hfree => ?unbound, fun hbound b0 b st rest => ?bound⟩
  case unbound => exact congrArg Host.Outcome.next (if_neg (by simp [hfree]))
  case bound =>
    refine ⟨fun hb => ?_, fun hb => ?_, fun hb => ?_⟩ <;> rw [exec, execIsBusy, opIsBusy, if_pos hbound]
    · rw [frameSrrd_ok hb]; rfl
    · rw [frameSrrd_rx_fail hb]; rfl
    · rw [frameSrrd_tx_fail hb]; rfl

/-- Settles O40: a status frame writes its opcode byte and `sr`, and the response is the end of the request. -/
theorem isBusyLeavesHandle : Obligations.IsBusyLeavesHandle := by
  intro s t hexec
  by_cases hbound : s.busBound = true
  · obtain ⟨evs, -, bus, draws, sr, hframe, -⟩ := frameSrrd_state s
    have ht : ∃ busy, t = respondBusy busy (setSeq .idle (frameSrrd s).2) := by
      simp only [exec, execIsBusy, opIsBusy, if_pos hbound] at hexec
      split at hexec <;> cases hexec <;> exact ⟨_, rfl⟩
    obtain ⟨busy, rfl⟩ := ht
    rw [hframe]
    exact ⟨rfl, rfl, rfl, rfl, rfl, rfl, rfl, rfl, rfl, rfl, rfl, rfl, rfl, fun h => by simp [h] at hbound⟩
  · rw [exec, execIsBusy, opIsBusy, if_neg hbound] at hexec
    cases hexec
    exact ⟨rfl, rfl, rfl, rfl, rfl, rfl, rfl, rfl, rfl, rfl, rfl, rfl, rfl, fun _ => rfl⟩

end Sys2Proof.Machine
end

section
/-! The two waits (42_framing_poll.md R162 to R168): what one pass does under answers that are given, and how a wait ends. -/

namespace Sys2Proof.Machine

/-! ### One pass of a poll -/

/-- The state after a status read that returned `st` (R122, R160). -/
def polled (st : Byte) (rest : List BusAnswer) (s : State) : State :=
  { s with
    cmd := { s.cmd with c0 := s.params.opSrrd }, sr := st, seq := .gap, cs := true,
    trace := s.trace ++ scope [.tx [s.params.opSrrd], .rx [st]], bus := rest, draws := s.draws + 2 }

/-- The state after a reading of the tick source. -/
def ticked (now : Tick) (ticks : List Tick) (s : State) : State :=
  { s with trace := s.trace ++ [.tick now], ticks := ticks, draws := s.draws + 1 }

section Poll
variable {s u : State} {f : Flight} {budget now : Tick} {ticks : List Tick} {b0 m : List Byte} {st : Byte}
  {rest : List BusAnswer}

theorem frameSrrd_polled (hb : s.bus = ⟨true, b0⟩ :: ⟨true, st :: m⟩ :: rest) :
    frameSrrd s = (some [st], polled st rest s) := frameSrrd_ok hb

theorem pollOnce_ready (budget : Tick) (hb : s.bus = ⟨true, b0⟩ :: ⟨true, st :: m⟩ :: rest)
    (hbusy : deviceBusy s.params st = false) : pollOnce budget s = (.done, polled st rest s) := by
  simp [pollOnce, frameSrrd_polled hb, polled, hbusy]

/-- R162: the tick is read after a busy status, and the comparison with the budget is strict. -/
theorem pollOnce_busy (hb : s.bus = ⟨true, b0⟩ :: ⟨true, st :: m⟩ :: rest) (hbusy : deviceBusy s.params st = true)
    (ht : s.ticks = now :: ticks) : pollOnce budget s =
      (if budget < now - s.t0 then .expired else .again, ticked now ticks (polled st rest s)) := by
  have hnow : nextTick (polled st rest s) = now := by simp [nextTick, polled, ht]
  have hread : readTick (polled st rest s) = ticked now ticks (polled st rest s) := by
    simp [readTick, ticked, hnow]
    simp [polled, ht]
  simp only [pollOnce, frameSrrd_polled hb, hnow, hread]
  rw [if_pos (show deviceBusy (polled st rest s).params (polled st rest s).sr = true from hbusy)]
  have hlimit : elapsed (polled st rest s).t0 now > budget ↔ budget < now - s.t0 := Iff.rfl
  simp only [hlimit]
  split <;> rfl

theorem pollOnce_fail (budget : Tick) (h : frameSrrd s = (none, u)) : pollOnce budget s = (.xferFail, u) := by
  simp [pollOnce, h]

/-- A completion poll and INIT's ready wait are the same loop, with different budgets and different ends (R165, R186). -/
def PollsWith (f : Flight) (budget : Tick) (p : Params) : Prop := f = .poll budget ∨ f = .initReady ∧ budget = p.tResp

theorem resume_again (hf : PollsWith f budget s.params) (h : pollOnce budget s = (.again, u)) :
    resume f s = park f u := by
  rcases hf with rfl | ⟨rfl, rfl⟩ <;> simp [resume, completePoll, initPoll, h]

theorem resume_timeout (hf : PollsWith f budget s.params) {r : PollResult} (h : pollOnce budget s = (r, u))
    (hr : r = .expired ∨ r = .xferFail) : resume f s = raise .timeout u := by
  rcases hf with rfl | ⟨rfl, rfl⟩ <;> rcases hr with rfl | rfl <;> simp [resume, completePoll, initPoll, h]

theorem resume_poll_ready (hb : s.bus = ⟨true, b0⟩ :: ⟨true, st :: m⟩ :: rest)
    (hbusy : deviceBusy s.params st = false) : resume (.poll budget) s = ended .ready (polled st rest s) := by
  simp only [resume, completePoll, pollOnce_ready budget hb hbusy]
  rfl

theorem resume_busy_again (hf : PollsWith f budget s.params) (hb : s.bus = ⟨true, b0⟩ :: ⟨true, st :: m⟩ :: rest)
    (hbusy : deviceBusy s.params st = true) (ht : s.ticks = now :: ticks) (h : now - s.t0 ≤ budget) :
    resume f s = park f (ticked now ticks (polled st rest s)) :=
  resume_again hf ((pollOnce_busy hb hbusy ht).trans (by rw [if_neg (BitVec.not_lt.mpr h)]))

theorem resume_busy_expired (hf : PollsWith f budget s.params) (hb : s.bus = ⟨true, b0⟩ :: ⟨true, st :: m⟩ :: rest)
    (hbusy : deviceBusy s.params st = true) (ht : s.ticks = now :: ticks) (h : budget < now - s.t0) :
    resume f s = ended .errorTimeout (ticked now ticks (polled st rest s)) := by
  rw [resume_timeout hf (pollOnce_busy hb hbusy ht) (.inl (if_pos h)), raise_eq_ended _ rfl]
  rfl

theorem resume_xferFail (hf : PollsWith f budget s.params) (h : frameSrrd s = (none, u)) (hcs : u.cs = true) :
    resume f s = ended .errorTimeout u := by
  rw [resume_timeout hf (pollOnce_fail budget h) (.inr rfl), raise_eq_ended _ hcs]
  rfl

end Poll

/-! ### A request that starts a poll -/

/-- A request that starts a poll is the first pass of that poll, after its frames and the tick its wait begins with. -/
theorem exec_of_startsPoll {s latched : State} {i : Instr} {f : Flight} {budget t0 : Tick}
    {frames : List (List (List Byte))} {good rest : List BusAnswer} {ticks : List Tick}
    (h : StartsPoll s i f budget frames latched) (hb : s.bus = good ++ rest) (hl : good.length = frames.flatten.length)
    (ha : ∀ x ∈ good, x.ok = true) (ht : s.ticks = t0 :: ticks) :
    ∃ (cs : Bool) (u : State),
      u = { latched with
        seq := .wait, cs := cs, t0 := t0, trace := s.trace ++ scopesOf frames ++ [.tick t0], bus := rest, ticks := ticks,
        draws := s.draws + good.length + 1 } ∧
      PollsWith f budget u.params ∧ exec i s = .next (resume f u) := by
  cases h with
  | completion admitted =>
    have ht' : latched.ticks = t0 :: ticks := by cases admitted <;> exact ht
    refine ⟨true, _, rfl, .inl rfl, ?_⟩
    rw [exec_of_admitted admitted hb hl ha, complete, startWait_of_ticks (by exact ht')]
    rfl
  | initReady wired selected =>
    obtain rfl := List.length_eq_zero_iff.mp hl
    refine ⟨s.cs, _, rfl, .inr ⟨rfl, rfl⟩, ?_⟩
    have hguard : guardStraps s = true := (guardStraps_iff s).mpr ⟨wired, selected⟩
    simp only [exec, execInit, opInit, hguard, if_true, resume, bindBus_setSeq]
    rw [startWait_of_ticks (by rw [setSeq_ticks, bindBus_ticks, ht]), bindBus_eq]
    simp [setSeq, scopesOf, show rest = s.bus from hb.symm]

theorem StartsPoll.latched_params {s latched : State} {i : Instr} {f : Flight} {budget : Tick}
    {frames : List (List (List Byte))} (h : StartsPoll s i f budget frames latched) :
    latched.params = s.params ∧ latched.sr = s.sr ∧ latched.resetIn = s.resetIn := by
  cases h with
  | completion admitted => cases admitted <;> exact ⟨rfl, rfl, rfl⟩
  | initReady _ _ => exact ⟨rfl, rfl, rfl⟩

/-- A request that starts a completion poll is no INIT. -/
theorem StartsPoll.poll_of_ne_init {s latched : State} {i : Instr} {f : Flight} {budget : Tick}
    {frames : List (List (List Byte))} (h : StartsPoll s i f budget frames latched) (hi : i ≠ .init) :
    f = .poll budget := by
  cases h with
  | completion _ => rfl
  | initReady _ _ => exact absurd rfl hi

/-- Settles O41: the request's own step makes the first pass of the poll. -/
theorem pollFirstPass : Obligations.PollFirstPass := by
  intro s latched i f budget frames h good rest b0 b st t0 now ticks hl ha ht
  obtain ⟨hparams, hsr, -⟩ := h.latched_params
  refine ⟨fun hb => ⟨fun hready hi => ?ready, fun hbusy hle => ?again, fun hbusy hlt => ?expired⟩, fun hb => ?rxFail,
    fun hb => ?txFail⟩
  all_goals obtain ⟨cs, u, rfl, hf, hexec⟩ := exec_of_startsPoll h hb hl ha ht
  case ready =>
    obtain rfl := h.poll_of_ne_init hi
    rw [hexec, resume_poll_ready rfl (by rw [hparams, hready])]
    simp [ended, polled, scope, hparams]
  case again =>
    rw [hexec, resume_busy_again hf rfl (by rw [hparams, hbusy]) rfl hle]
    simp [park, ticked, polled, scope, hparams]
  case expired =>
    rw [hexec, resume_busy_expired hf rfl (by rw [hparams, hbusy]) rfl hlt]
    simp [ended, ticked, polled, scope, hparams]
  case rxFail =>
    rw [hexec, resume_xferFail hf (frameSrrd_rx_fail rfl) rfl]
    simp [ended, hparams, hsr]
  case txFail =>
    rw [hexec, resume_xferFail hf (frameSrrd_tx_fail rfl) rfl]
    simp [ended, hparams, hsr]

/-! ### Several passes -/

/-- Successive status reads that find the device busy, each followed by a tick reading. -/
def pollEvents (op st : Byte) (ticks : List Tick) : List Event :=
  ticks.flatMap fun x => [.cs0, .tx [op], .rx [st], .cs1, .tick x]

/-- A poll whose device stays busy, with some tick readings inside the budget and then one beyond it: one pass per reading,
each a step but the first, and then ErrorTimeout (R162). -/
theorem poll_exhausts {f : Flight} {budget now : Tick} {early later : List Tick} {x : List Byte} {st : Byte}
    {rest : List BusAnswer} {s : State} (hf : PollsWith f budget s.params) (hreset : s.resetIn = false)
    (hbusy : deviceBusy s.params st = true) (ht : s.ticks = early ++ now :: later)
    (hb : s.bus = (List.replicate (early.length + 1) [(⟨true, x⟩ : BusAnswer), ⟨true, [st]⟩]).flatten ++ rest)
    (hearly : ∀ y ∈ early, y - s.t0 ≤ budget) (hnow : budget < now - s.t0) :
    (early ≠ [] → (resume f s).flight = some f) ∧
      Sys2Proof.core.run early.length (resume f s) = .next (ended .errorTimeout
        { s with
          cmd := { s.cmd with c0 := s.params.opSrrd }, sr := st, cs := true,
          trace := s.trace ++ pollEvents s.params.opSrrd st (early ++ [now]), bus := rest, ticks := later,
          draws := s.draws + 3 * (early.length + 1) }) := by
  induction early generalizing s with
  | nil =>
    refine ⟨fun h => absurd rfl h, ?_⟩
    rw [List.length_nil, run_zero, resume_busy_expired hf (by exact hb) hbusy ht hnow]
    simp [ended, ticked, polled, scope, pollEvents]
  | cons y early ih =>
    have hpass := resume_busy_again hf
      (rest := (List.replicate (early.length + 1) [(⟨true, x⟩ : BusAnswer), ⟨true, [st]⟩]).flatten ++ rest)
      (by rw [hb, List.length_cons, List.replicate_succ]; rfl) hbusy
      (ticks := early ++ now :: later) (by exact ht) (hearly y List.mem_cons_self)
    refine ⟨fun _ => by rw [hpass]; rfl, ?_⟩
    rw [hpass, List.length_cons, run_succ_of_next (step_of_flight (f := f) (by exact hreset) (show Seq.gap ≠ .idle by decide) rfl),
      (ih (s := unpark (park f (ticked y (early ++ now :: later) (polled st _ s)))) hf hreset hbusy rfl rfl
        (fun z hz => hearly z (List.mem_cons_of_mem _ hz)) hnow).2]
    have hdraws : s.draws + 2 + 1 + 3 * (early.length + 1) = s.draws + 3 * (early.length + 1 + 1) := by omega
    simp [ended, unpark, park, ticked, polled, scope, pollEvents, hdraws]

/-- The `k`-th reading of a tick that steps by one per reading is `k + 1` ticks after the start. -/
theorem tick_sub_start (t0 : Tick) (k : Nat) : t0 + 1 + BitVec.ofNat 32 k - t0 = BitVec.ofNat 32 (k + 1) := by
  rw [BitVec.ofNat_add]
  ac_nf
  simp

/-- Settles O45: of the readings `t0 + 1` to `t0 + budget + 1` the last is the first beyond the budget. -/
theorem busyPollExhaustsBudget : Obligations.BusyPollExhaustsBudget := by
  intro s latched i f budget t0 frames x st good rest later h hbudget hreset hbusy hl ha hb ht
  obtain ⟨hparams, -, hreset'⟩ := h.latched_params
  have hticks : (List.range (budget.toNat + 1)).map (fun k => t0 + 1 + BitVec.ofNat 32 k) =
      (List.range budget.toNat).map (fun k => t0 + 1 + BitVec.ofNat 32 k) ++ [t0 + 1 + BitVec.ofNat 32 budget.toNat] := by
    rw [List.range_succ, List.map_append]
    rfl
  obtain ⟨cs, u, hu, hf, hexec⟩ := exec_of_startsPoll h (by rw [hb, List.append_assoc]) hl ha ht
  have hpoll := poll_exhausts (f := f) (later := later) (x := x) (st := st) (rest := rest)
    (early := (List.range budget.toNat).map (fun k => t0 + 1 + BitVec.ofNat 32 k))
    (now := t0 + 1 + BitVec.ofNat 32 budget.toNat) hf (by rw [hu, hreset', hreset])
    (by rw [hu, hparams]; exact hbusy) (by rw [hu, hticks]; exact List.append_assoc ..) (by rw [hu]; simp) ?early ?late
  case early =>
    intro y hy
    obtain ⟨k, hk, rfl⟩ := List.mem_map.mp hy
    rw [List.mem_range] at hk
    rw [hu, tick_sub_start, BitVec.le_def, BitVec.toNat_ofNat, Nat.mod_eq_of_lt (by omega)]
    omega
  case late =>
    rw [hu, tick_sub_start, BitVec.lt_def, BitVec.toNat_ofNat, Nat.mod_eq_of_lt hbudget]
    omega
  refine ⟨_, hexec, fun hne => hpoll.1 ?nonempty, ?run⟩
  case nonempty =>
    intro hempty
    have hzero : budget.toNat = 0 := by simpa using congrArg List.length hempty
    exact hne (BitVec.eq_of_toNat_eq hzero)
  case run =>
    have hrun := hpoll.2
    rw [← hticks, List.length_map, List.length_range] at hrun
    rw [hrun, hu]
    simp [ended, hparams, pollEvents, List.flatMap_map]

/-- Settles O46: induction on the readings that come too early. -/
theorem delayEndsAtFirstPassedTick : Obligations.DelayEndsAtFirstPassedTick := by
  intro s delay now early later hreset hbusy hflight ht hearly hnow
  induction early generalizing s with
  | nil =>
    have hstep : step s = .next (completeDelay delay (unpark s)) := step_of_flight hreset hbusy hflight
    refine ⟨?_, fun k hk => ⟨s, ?_, hflight, rfl⟩⟩
    · rw [List.length_nil, run_succ_of_next hstep, run_zero, completeDelay_passed (u := unpark s) ht hnow]
      rfl
    · obtain rfl := Nat.le_zero.mp hk
      rfl
  | cons x early ih =>
    have hstep : step s = .next (park (.delay delay) (ticked x (early ++ now :: later) (unpark s))) :=
      (step_of_flight hreset hbusy hflight).trans
        (congrArg Host.Outcome.next (completeDelay_early (u := unpark s) ht (hearly x List.mem_cons_self)))
    obtain ⟨hend, hwait⟩ := ih (park (.delay delay) (ticked x (early ++ now :: later) (unpark s))) hreset hbusy rfl rfl
      (fun y hy => hearly y (List.mem_cons_of_mem _ hy)) hnow
    refine ⟨?_, fun k hk => ?_⟩
    · rw [List.length_cons, run_succ_of_next hstep, hend]
      have hdraws : s.draws + 1 + early.length = s.draws + (early.length + 1) := by omega
      simp [ended, unpark, park, ticked, hdraws]
    · cases k with
      | zero => exact ⟨s, rfl, hflight, rfl⟩
      | succ k =>
        rw [run_succ_of_next hstep]
        exact hwait k (Nat.le_of_succ_le_succ hk)

end Sys2Proof.Machine
end

section
/-! INIT under answers that are given (43_operations.md R186, R187): one lemma per stage, and the obligations from a pass of its
ready wait on. -/

namespace Sys2Proof.Machine

/-! ### What the stages leave -/

/-- The state after an identity read that returned the bytes of `id` (R123, R186 step 3). -/
def identified (id : Identity) (rest : List BusAnswer) (s : State) : State :=
  { s with
    identity := if s.pageCount = 0 then id else s.identity, cmd := { s.cmd with c0 := s.params.opIdrd }, seq := .gap,
    cs := true, trace := s.trace ++ scope [.tx [s.params.opIdrd], .rx [id.b0, id.b1, id.b2, id.b3, id.b4]], bus := rest,
    draws := s.draws + 2 }

/-- The state after the page-size sequence and the first tick of the delay that follows it (R124, R163). -/
def configured (t1 : Tick) (ticks : List Tick) (rest : List BusAnswer) (s : State) : State :=
  { s with
    cmd := ⟨s.params.seqPscfgHead, s.params.seqPscfgTail.getD 0 s.cmd.c1, s.params.seqPscfgTail.getD 1 s.cmd.c2,
      s.params.seqPscfgTail.getD 2 s.cmd.c3⟩,
    seq := .wait, cs := true, t0 := t1, trace := s.trace ++ scope [.tx s.params.seqPscfg] ++ [.tick t1], bus := rest,
    ticks := ticks, draws := s.draws + 2 }

/-- The state with the part's page count latched (R22). -/
def paged (part : PartPages) (s : State) : State :=
  { s with pageCount := if s.pageCount = 0 then part.pages else s.pageCount }

theorem latchCmd_seqPscfg (s : State) : latchCmd (encOp s.params .pageSizeConfigure) s =
    { s with
      cmd := ⟨s.params.seqPscfgHead, s.params.seqPscfgTail.getD 0 s.cmd.c1, s.params.seqPscfgTail.getD 1 s.cmd.c2,
        s.params.seqPscfgTail.getD 2 s.cmd.c3⟩ } := by
  simp [latchCmd, encOp, Params.seqPscfg]

/-! ### The stages -/

section Stages
variable {s u : State} {b0 m b : List Byte} {st i0 i1 i2 i3 i4 : Byte} {part : PartPages} {now t1 : Tick}
  {ticks : List Tick} {rest : List BusAnswer}

theorem initPoll_ready (hb : s.bus = ⟨true, b0⟩ :: ⟨true, st :: m⟩ :: rest) (hbusy : deviceBusy s.params st = false) :
    initPoll s = initIdentify (polled st rest s) := by
  simp only [initPoll, pollOnce_ready _ hb hbusy]

theorem initPoll_fail (h : frameSrrd s = (none, u)) (hcs : u.cs = true) : initPoll s = ended .errorTimeout u :=
  resume_xferFail (f := .initReady) (.inr ⟨rfl, rfl⟩) h hcs

theorem initIdentify_ok (hb : s.bus = ⟨true, b0⟩ :: ⟨true, [i0, i1, i2, i3, i4]⟩ :: rest) :
    initIdentify s = initCheck [i0, i1, i2, i3, i4] (identified ⟨i0, i1, i2, i3, i4⟩ rest s) := by
  simp only [initIdentify, frameIdrd_ok hb, latchIdentity_eq]
  rfl

theorem initIdentify_fail (h : frameIdrd s = (none, u)) (hcs : u.cs = true) : initIdentify s = ended .errorTimeout u := by
  simp only [initIdentify, h]
  exact raise_eq_ended _ hcs

theorem initCheck_unknown (h : i0 ≠ 0x1F ∨ partOf s.params i1 = none) (hcs : s.cs = true) :
    initCheck [i0, i1, i2, i3, i4] s = ended .errorInitialization s := by
  have hraise : initCheck [i0, i1, i2, i3, i4] s = raise .initialization s := by
    by_cases hmaker : i0 = 0x1F
    · have hpart : partOf s.params i1 = none := h.resolve_left (not_not.mpr hmaker)
      simp [initCheck, hpart]
    · exact if_pos hmaker
  rw [hraise]
  exact raise_eq_ended _ hcs

theorem initCheck_known (hmaker : i0 = 0x1F) (hpart : partOf s.params i1 = some part) :
    initCheck [i0, i1, i2, i3, i4] s = initMode part s := by
  simp [initCheck, hmaker, manufacturerId, hpart]

theorem initFinish_eq_ended (part : PartPages) (s : State) : initFinish part s = ended .ready (paged part s) := by
  rw [initFinish, latchPages_eq]
  rfl

theorem initMode_binary (hb : s.bus = ⟨true, b0⟩ :: ⟨true, st :: m⟩ :: rest) (hmode : binaryMode s.params st = true) :
    initMode part s = ended .ready (paged part (polled st rest s)) := by
  simp only [initMode, frameSrrd_polled hb, initFinish_eq_ended]
  exact if_pos hmode

theorem initMode_alternate (hb : s.bus = ⟨true, b0⟩ :: ⟨true, st :: m⟩ :: rest) (hmode : binaryMode s.params st = false) :
    initMode part s = initConfigure part (polled st rest s) := by
  simp only [initMode, frameSrrd_polled hb]
  exact if_neg (Bool.eq_false_iff.mp hmode)

theorem initMode_fail (h : frameSrrd s = (none, u)) (hcs : u.cs = true) :
    initMode part s = ended .errorInitialization u := by
  simp only [initMode, h]
  exact raise_eq_ended _ hcs

theorem initConfigure_ok (hb : s.bus = ⟨true, b0⟩ :: rest) (ht : s.ticks = t1 :: ticks) :
    initConfigure part s = initDelay part (configured t1 ticks rest s) := by
  simp only [initConfigure, frameSequence_ok hb, latchCmd_seqPscfg]
  rw [startWait_of_ticks (by exact ht)]
  rfl

theorem initConfigure_fail (hb : s.bus = ⟨false, b⟩ :: rest) : initConfigure part s = ended .errorInitialization
    { s with
      cmd := ⟨s.params.seqPscfgHead, s.params.seqPscfgTail.getD 0 s.cmd.c1, s.params.seqPscfgTail.getD 1 s.cmd.c2,
        s.params.seqPscfgTail.getD 2 s.cmd.c3⟩,
      seq := .gap, cs := true, trace := s.trace ++ scope [.txFail s.params.seqPscfg], bus := rest,
      draws := s.draws + 1 } := by
  simp only [initConfigure, frameSequence_fail (op := .pageSizeConfigure) (pre := []) (post := []) (good := []) rfl hb rfl nofun]
  rw [raise_eq_ended _ rfl, latchCmd_seqPscfg]
  rfl

theorem initDelay_early (ht : s.ticks = now :: ticks) (h : now - s.t0 < s.params.tConfig) :
    initDelay part s = park (.initConfig part) (ticked now ticks s) := by
  obtain ⟨hnow, hread⟩ := readTick_of_ticks ht
  simp only [initDelay, delayOnce, decide_eq_true_eq, hnow, hread]
  exact if_neg (BitVec.not_le.mpr h)

theorem initDelay_passed (ht : s.ticks = now :: ticks) (h : s.params.tConfig ≤ now - s.t0) :
    initDelay part s = initVerify part (ticked now ticks s) := by
  obtain ⟨hnow, hread⟩ := readTick_of_ticks ht
  simp only [initDelay, delayOnce, decide_eq_true_eq, hnow, hread]
  exact if_pos h

theorem initVerify_binary (hb : s.bus = ⟨true, b0⟩ :: ⟨true, st :: m⟩ :: rest) (hmode : binaryMode s.params st = true) :
    initVerify part s = ended .ready (paged part (polled st rest s)) := by
  simp only [initVerify, frameSrrd_polled hb, initFinish_eq_ended]
  exact if_pos hmode

theorem initVerify_alternate (hb : s.bus = ⟨true, b0⟩ :: ⟨true, st :: m⟩ :: rest)
    (hmode : binaryMode s.params st = false) : initVerify part s = ended .errorInitialization (polled st rest s) := by
  simp only [initVerify, frameSrrd_polled hb]
  exact (if_neg (Bool.eq_false_iff.mp hmode)).trans (raise_eq_ended _ rfl)

theorem initVerify_fail (h : frameSrrd s = (none, u)) (hcs : u.cs = true) :
    initVerify part s = ended .errorInitialization u := by
  simp only [initVerify, h]
  exact raise_eq_ended _ hcs

end Stages

/-! ### From a pass of the ready wait on -/

/-- The state `u` a pass of INIT's ready wait runs from is `start`, up to what every end overwrites, and `start` agrees with
`s` where the statements about INIT read `s`. -/
structure InitStart (s start u : State) : Prop where
  eq : ∃ (p : Seq) (fl : Option Flight), u = { start with seq := p, flight := fl }
  bus : start.bus = s.bus
  params : start.params = s.params
  pageCount : start.pageCount = s.pageCount
  identity : start.identity = s.identity
  cmd : start.cmd = s.cmd
  sr : start.sr = s.sr

theorem initPass_run {s start : State} {run : Host.Outcome State Fault Refusal} (h : InitPass s run start) :
    ∃ u, run = .next (initPoll u) ∧ InitStart s start u := by
  cases h with
  | first wired selected t0 ticks read =>
    refine ⟨_, congrArg Host.Outcome.next (if_pos ((guardStraps_iff s).mpr ⟨wired, selected⟩)), ⟨.wait, s.flight, ?_⟩, rfl, rfl,
      rfl, rfl, rfl, rfl⟩
    rw [startWait_of_ticks (by rw [bindBus_ticks, setSeq_ticks, read]), bindBus_eq]
    rfl
  | later released busy waiting =>
    exact ⟨unpark s, step_of_flight released busy waiting, ⟨s.seq, none, rfl⟩, rfl, rfl, rfl, rfl, rfl, rfl⟩

namespace InitStart
variable {s start u : State}

theorem bus_eq (h : InitStart s start u) : u.bus = s.bus := by
  obtain ⟨p, fl, rfl⟩ := h.eq
  exact h.bus

theorem params_eq (h : InitStart s start u) : u.params = s.params := by
  obtain ⟨p, fl, rfl⟩ := h.eq
  exact h.params

theorem ticks_eq (h : InitStart s start u) : u.ticks = start.ticks := by
  obtain ⟨p, fl, rfl⟩ := h.eq
  rfl

end InitStart

/-- INIT's state at its page-size step, once the device has answered ready and named itself. -/
def named (st : Byte) (id : Identity) (rest : List BusAnswer) (s : State) : State :=
  identified id rest (polled st [] s)

section Pass
variable {s start u : State} {b0 b1 b2 m0 m2 : List Byte} {st st' i0 i1 i2 i3 i4 : Byte} {part : PartPages}
  {rest : List BusAnswer}

theorem initPoll_named (hb : s.bus = ⟨true, b0⟩ :: ⟨true, st :: m0⟩ :: ⟨true, b1⟩ :: ⟨true, [i0, i1, i2, i3, i4]⟩ :: rest)
    (hbusy : deviceBusy s.params st = false) (hmaker : i0 = 0x1F) (hpart : partOf s.params i1 = some part) :
    initPoll s = initMode part (named st ⟨i0, i1, i2, i3, i4⟩ rest s) := by
  rw [initPoll_ready hb hbusy, initIdentify_ok rfl, initCheck_known hmaker (by exact hpart)]
  rfl

theorem initPoll_unknown
    (hb : s.bus = ⟨true, b0⟩ :: ⟨true, st :: m0⟩ :: ⟨true, b1⟩ :: ⟨true, [i0, i1, i2, i3, i4]⟩ :: rest)
    (hbusy : deviceBusy s.params st = false) (h : i0 ≠ 0x1F ∨ partOf s.params i1 = none) :
    initPoll s = ended .errorInitialization (named st ⟨i0, i1, i2, i3, i4⟩ rest s) := by
  rw [initPoll_ready hb hbusy, initIdentify_ok rfl, initCheck_unknown (by exact h) rfl]
  rfl

theorem initPoll_alternate
    (hb : s.bus = ⟨true, b0⟩ :: ⟨true, st :: m0⟩ :: ⟨true, b1⟩ :: ⟨true, [i0, i1, i2, i3, i4]⟩ :: ⟨true, b2⟩ ::
      ⟨true, st' :: m2⟩ :: rest)
    (hbusy : deviceBusy s.params st = false) (hmaker : i0 = 0x1F) (hpart : partOf s.params i1 = some part)
    (hmode : binaryMode s.params st' = false) :
    initPoll s = initConfigure part (polled st' rest (named st ⟨i0, i1, i2, i3, i4⟩ [] s)) := by
  rw [initPoll_named hb hbusy hmaker hpart, initMode_alternate rfl (by exact hmode)]
  rfl

/-- R186 on a ready device in binary mode, from any pass of the ready wait on. -/
theorem initPass_succeeds {run : Host.Outcome State Fault Refusal} (h : InitPass s run start)
    (hb : s.bus = ⟨true, b0⟩ :: ⟨true, st :: m0⟩ :: ⟨true, b1⟩ :: ⟨true, [i0, i1, i2, i3, i4]⟩ :: ⟨true, b2⟩ ::
      ⟨true, st' :: m2⟩ :: rest)
    (hbusy : deviceBusy s.params st = false) (hmaker : i0 = 0x1F) (hpart : partOf s.params i1 = some part)
    (hmode : binaryMode s.params st' = true) :
    run = .next (ended .ready (paged part (polled st' rest (named st ⟨i0, i1, i2, i3, i4⟩ [] start)))) := by
  obtain ⟨u, rfl, hu⟩ := initPass_run h
  rw [← hu.params_eq] at hbusy hpart hmode
  rw [initPoll_named (hu.bus_eq.trans hb) hbusy hmaker hpart, initMode_binary rfl (by exact hmode)]
  obtain ⟨p, fl, rfl⟩ := hu.eq
  rfl

end Pass

/-- Settles O22. -/
theorem initSucceeds : Obligations.InitSucceeds := by
  intro s b0 b1 b2 m0 m2 st st' i0 i1 i2 i3 i4 part t0 ticks rest wired selected hticks hb hbusy hmaker hpart hmode
  rw [initPass_succeeds (.first wired selected t0 ticks hticks) hb hbusy hmaker hpart hmode]
  simp [ended, paged, polled, named, identified, scope]

/-- Settles O24. -/
theorem initRejectsDevice : Obligations.InitRejectsDevice := by
  intro s start run h b0 b1 m0 st i0 i1 i2 i3 i4 rest hb hbusy hbad
  obtain ⟨u, rfl, hu⟩ := initPass_run h
  rw [← hu.params_eq] at hbusy hbad
  rw [initPoll_unknown (hu.bus_eq.trans hb) hbusy hbad]
  obtain ⟨⟨p, fl, rfl⟩, -, hparams, hcount, hid, hcmd, -⟩ := hu
  simp [ended, polled, named, identified, scope, hparams, hcount, hid, hcmd]

/-- Settles O25: each stage's failing transfer, after the stages before it. -/
theorem initTransportErrors : Obligations.InitTransportErrors := by
  intro s start run h x b0 b1 b2 b3 b4 m0 m2 st st' i0 i1 i2 i3 i4 part rest hbusy hmaker hpart
  obtain ⟨u, rfl, hu⟩ := initPass_run h
  have hbus := hu.bus_eq
  have hticks := hu.ticks_eq
  have hparams := hu.params_eq
  rw [← hparams] at hbusy hpart
  refine ⟨fun hb => ?poll0, fun hb => ?poll1, fun hb => ?identify2, fun hb => ?identify3, fun hb => ?mode4,
    fun hb => ?mode5, fun hmode => ⟨fun hb => ?configure6, fun t1 t2 ticks ht hpassed => ⟨fun hb => ?verify7,
    fun hb => ?verify8⟩⟩⟩
  case' poll0 => rw [initPoll_fail (frameSrrd_tx_fail (hbus.trans hb)) rfl]
  case' poll1 => rw [initPoll_fail (frameSrrd_rx_fail (hbus.trans hb)) rfl]
  case' identify2 => rw [initPoll_ready (hbus.trans hb) hbusy, initIdentify_fail (frameIdrd_tx_fail rfl) rfl]
  case' identify3 => rw [initPoll_ready (hbus.trans hb) hbusy, initIdentify_fail (frameIdrd_rx_fail rfl) rfl]
  case' mode4 => rw [initPoll_named (hbus.trans hb) hbusy hmaker hpart, initMode_fail (frameSrrd_tx_fail rfl) rfl]
  case' mode5 => rw [initPoll_named (hbus.trans hb) hbusy hmaker hpart, initMode_fail (frameSrrd_rx_fail rfl) rfl]
  case' configure6 =>
    rw [initPoll_alternate (hbus.trans hb) hbusy hmaker hpart (by rw [hparams, hmode]), initConfigure_fail rfl]
  case' verify7 =>
    rw [initPoll_alternate (hbus.trans hb) hbusy hmaker hpart (by rw [hparams, hmode]),
      initConfigure_ok rfl (by exact hticks.trans ht), initDelay_passed rfl (by exact hparams ▸ hpassed),
      initVerify_fail (frameSrrd_tx_fail rfl) rfl]
  case' verify8 =>
    rw [initPoll_alternate (hbus.trans hb) hbusy hmaker hpart (by rw [hparams, hmode]),
      initConfigure_ok rfl (by exact hticks.trans ht), initDelay_passed rfl (by exact hparams ▸ hpassed),
      initVerify_fail (frameSrrd_rx_fail rfl) rfl]
  all_goals
    obtain ⟨⟨p, fl, heq⟩, -, hp, hcount, hid, hcmd, hsr⟩ := hu
    simp [ended, scope, ticked, configured, polled, identified, named, heq, hp, hcount, hid, hcmd, hsr]

/-- Settles O26. -/
theorem initReconfigures : Obligations.InitReconfigures := by
  intro s start run h b0 b1 b2 b3 b4 m0 m2 m4 st st' st'' i0 i1 i2 i3 i4 part t1 t2 ticks rest more ht hb hbusy hmaker hpart
    hmode
  obtain ⟨u, rfl, hu⟩ := initPass_run h
  have hparams := hu.params_eq
  rw [← hparams] at hbusy hpart hmode
  have hdelay := (initPoll_alternate (hu.bus_eq.trans hb) hbusy hmaker hpart hmode).trans
    (initConfigure_ok rfl (by exact hu.ticks_eq.trans ht))
  refine ⟨fun hearly => ?early, fun hpassed hrest => ⟨fun hbinary => ?binary, fun halternate => ?alternate⟩⟩
  case' early => rw [hdelay, initDelay_early rfl (by exact hparams ▸ hearly)]
  case' binary =>
    rw [hdelay, initDelay_passed rfl (by exact hparams ▸ hpassed), initVerify_binary hrest (by exact hparams ▸ hbinary)]
  case' alternate =>
    rw [hdelay, initDelay_passed rfl (by exact hparams ▸ hpassed),
      initVerify_alternate hrest (by exact hparams ▸ halternate)]
  all_goals
    obtain ⟨⟨p, fl, heq⟩, -, hp, hcount, hid, hcmd, hsr⟩ := hu
    simp [ended, park, paged, scope, ticked, configured, polled, identified, named, heq, hp, hcount, hid, hcmd]

/-! ### Later passes of both waits -/

/-- Settles O43. -/
theorem pollPassOutcomes : Obligations.PollPassOutcomes := by
  intro s f budget hreset hseq hflight hf b0 b st rest now ticks ht
  have hstep := step_of_flight hreset hseq hflight
  have hpoll : PollsWith f budget (unpark s).params := hf
  refine ⟨fun hb hready => ⟨fun hdone => ?done, ?init⟩, fun hb hbusy hle => ?again, fun hb hbusy hlt => ?expired,
    fun hb => ?rxFail, fun hb => ?txFail⟩
  case done =>
    subst hdone
    rw [hstep, resume_poll_ready (s := unpark s) hb hready]
    rfl
  case init =>
    rintro b1 b2 m2 i0 i1 i2 i3 i4 st' part more rfl rfl hmaker hpart hmode
    rw [initPass_succeeds (.later hreset hseq hflight) hb hready hmaker hpart hmode]
    simp only [ended, paged, polled, named, identified, List.append_assoc]
    rfl
  case again =>
    rw [hstep, resume_busy_again hpoll hb hbusy ht hle]
    simp [park, unpark, ticked, polled, scope, hflight]
  case expired =>
    rw [hstep, resume_busy_expired hpoll hb hbusy ht hlt]
    rfl
  case rxFail =>
    rw [hstep, resume_xferFail hpoll (frameSrrd_rx_fail hb) rfl]
    rfl
  case txFail =>
    rw [hstep, resume_xferFail hpoll (frameSrrd_tx_fail hb) rfl]
    rfl

/-- Settles O44. -/
theorem delayPassOutcomes : Obligations.DelayPassOutcomes := by
  intro s now ticks hreset hseq ht
  refine ⟨fun delay hflight => ⟨fun hpassed => ?_, fun hearly => ?_⟩, fun part hflight => ⟨fun hearly => ?early,
    fun hpassed b0 b st rest => ⟨fun hb => ⟨fun hbinary => ?binary, fun halternate => ?alternate⟩, fun hb => ?rxFail,
      fun hb => ?txFail⟩⟩⟩
  all_goals rw [step_of_flight hreset hseq hflight, resume]
  · rw [completeDelay_passed (u := unpark s) ht hpassed]
    rfl
  · rw [completeDelay_early (u := unpark s) ht hearly, ← hflight]
    rfl
  case early =>
    rw [initDelay_early (s := unpark s) ht hearly, park, ← hflight]
    rfl
  all_goals rw [initDelay_passed (s := unpark s) ht hpassed]
  case binary =>
    rw [initVerify_binary (s := ticked now ticks (unpark s)) hb hbinary]
    simp [ended, unpark, paged, ticked, polled, scope]
  case alternate =>
    rw [initVerify_alternate (s := ticked now ticks (unpark s)) hb halternate]
    simp [ended, unpark, ticked, polled, scope]
  case rxFail =>
    rw [initVerify_fail (frameSrrd_rx_fail (s := ticked now ticks (unpark s)) hb) rfl]
    simp [ended, unpark, ticked]
  case txFail =>
    rw [initVerify_fail (frameSrrd_tx_fail (s := ticked now ticks (unpark s)) hb) rfl]
    simp [ended, unpark, ticked]

end Sys2Proof.Machine
end
